-- ==== Sys2Proof/Word.lean ====
section
/-! DEFINITION. Word.lean: the two word types of the core (R7, R10) and their plainest arithmetic. -/

namespace Sys2Proof

/-- An 8-bit quantity: a register, a RAM byte, an operand byte (R7). -/
abbrev Byte := BitVec 8

/-- A 16-bit quantity: PC, an address, a register pair (R7). -/
abbrev Word := BitVec 16

/-- R10, R108: the 16-bit value `(hi << 8) | lo`. -/
abbrev Word.mk (hi lo : Byte) : Word := hi ++ lo

/-- The high byte `w >> 8`. -/
abbrev Word.hi (w : Word) : Byte := w.extractLsb' 8 8

/-- The low byte `w & 0xFF`. -/
abbrev Word.lo (w : Word) : Byte := w.extractLsb' 0 8

/-- A bit as the integer 0 or 1 (R10). -/
abbrev bitNat (b : Bool) : Nat := b.toNat

end Sys2Proof
end

