-- ==== Sys2Proof/Syntax.lean ====
section
/-! DEFINITION. Syntax.lean: the instruction set, one constructor for each of the 256 rows of spec/opcode_table.json
(R158), in opcode order: those with operands first, then those without (Lean's compiled code numbers constructors with
fields up to 244 only). Operands stand in assembler order (R160): a destination first. `m : Word` is an absolute
address, `dp`, `dd`, `ss` are direct-page offsets, `rel` a signed displacement, `up` an offset in page 0xFF. -/

namespace Sys2Proof

/-- The instructions of the core; each docstring gives the syntax of R158, the opcode and the rule. -/
inductive Instr where
  /-- `SET1 dp.0`, 0x02, R470 -/
  | set1Bit0 (dp : Byte)
  /-- `BBS dp.0, rel`, 0x03, R421 -/
  | bbsBit0 (dp : Byte) (rel : Byte)
  /-- `OR A, dp`, 0x04, R266 -/
  | orADp (dp : Byte)
  /-- `OR A, !abs`, 0x05, R268 -/
  | orAAbs (m : Word)
  /-- `OR A, [dp+X]`, 0x07, R272 -/
  | orADpXInd (dp : Byte)
  /-- `OR A, #imm`, 0x08, R274 -/
  | orAImm (imm : Byte)
  /-- `OR dd, ss`, 0x09, R276 -/
  | orDdSs (dd : Byte) (ss : Byte)
  /-- `OR1 C, m.b`, 0x0A, R501 -/
  | or1CMb (m : Word) (bit : Fin 8)
  /-- `ASL dp`, 0x0B, R356 -/
  | aslDp (dp : Byte)
  /-- `ASL !abs`, 0x0C, R358 -/
  | aslAbs (m : Word)
  /-- `TSET1 !abs`, 0x0E, R486 -/
  | tset1 (m : Word)
  /-- `BPL rel`, 0x10, R412 -/
  | bpl (rel : Byte)
  /-- `CLR1 dp.0`, 0x12, R471 -/
  | clr1Bit0 (dp : Byte)
  /-- `BBC dp.0, rel`, 0x13, R422 -/
  | bbcBit0 (dp : Byte) (rel : Byte)
  /-- `OR A, dp+X`, 0x14, R267 -/
  | orADpX (dp : Byte)
  /-- `OR A, !abs+X`, 0x15, R269 -/
  | orAAbsX (m : Word)
  /-- `OR A, !abs+Y`, 0x16, R271 -/
  | orAAbsY (m : Word)
  /-- `OR A, [dp]+Y`, 0x17, R273 -/
  | orADpIndY (dp : Byte)
  /-- `OR dp, #imm`, 0x18, R275 -/
  | orDpImm (dp : Byte) (imm : Byte)
  /-- `DECW dp`, 0x1A, R396 -/
  | decw (dp : Byte)
  /-- `ASL dp+X`, 0x1B, R357 -/
  | aslDpX (dp : Byte)
  /-- `CMP X, !abs`, 0x1E, R340 -/
  | cmpXAbs (m : Word)
  /-- `JMP [!abs+X]`, 0x1F, R442 -/
  | jmpAbsXInd (m : Word)
  /-- `SET1 dp.1`, 0x22, R472 -/
  | set1Bit1 (dp : Byte)
  /-- `BBS dp.1, rel`, 0x23, R423 -/
  | bbsBit1 (dp : Byte) (rel : Byte)
  /-- `AND A, dp`, 0x24, R278 -/
  | andADp (dp : Byte)
  /-- `AND A, !abs`, 0x25, R280 -/
  | andAAbs (m : Word)
  /-- `AND A, [dp+X]`, 0x27, R284 -/
  | andADpXInd (dp : Byte)
  /-- `AND A, #imm`, 0x28, R286 -/
  | andAImm (imm : Byte)
  /-- `AND dd, ss`, 0x29, R288 -/
  | andDdSs (dd : Byte) (ss : Byte)
  /-- `OR1 C, /m.b`, 0x2A, R502 -/
  | or1CNotMb (m : Word) (bit : Fin 8)
  /-- `ROL dp`, 0x2B, R360 -/
  | rolDp (dp : Byte)
  /-- `ROL !abs`, 0x2C, R362 -/
  | rolAbs (m : Word)
  /-- `CBNE dp, rel`, 0x2E, R437 -/
  | cbneDp (dp : Byte) (rel : Byte)
  /-- `BRA rel`, 0x2F, R420 -/
  | bra (rel : Byte)
  /-- `BMI rel`, 0x30, R413 -/
  | bmi (rel : Byte)
  /-- `CLR1 dp.1`, 0x32, R473 -/
  | clr1Bit1 (dp : Byte)
  /-- `BBC dp.1, rel`, 0x33, R424 -/
  | bbcBit1 (dp : Byte) (rel : Byte)
  /-- `AND A, dp+X`, 0x34, R279 -/
  | andADpX (dp : Byte)
  /-- `AND A, !abs+X`, 0x35, R281 -/
  | andAAbsX (m : Word)
  /-- `AND A, !abs+Y`, 0x36, R283 -/
  | andAAbsY (m : Word)
  /-- `AND A, [dp]+Y`, 0x37, R285 -/
  | andADpIndY (dp : Byte)
  /-- `AND dp, #imm`, 0x38, R287 -/
  | andDpImm (dp : Byte) (imm : Byte)
  /-- `INCW dp`, 0x3A, R395 -/
  | incw (dp : Byte)
  /-- `ROL dp+X`, 0x3B, R361 -/
  | rolDpX (dp : Byte)
  /-- `CMP X, dp`, 0x3E, R339 -/
  | cmpXDp (dp : Byte)
  /-- `CALL !abs`, 0x3F, R443 -/
  | call (m : Word)
  /-- `SET1 dp.2`, 0x42, R474 -/
  | set1Bit2 (dp : Byte)
  /-- `BBS dp.2, rel`, 0x43, R425 -/
  | bbsBit2 (dp : Byte) (rel : Byte)
  /-- `EOR A, dp`, 0x44, R290 -/
  | eorADp (dp : Byte)
  /-- `EOR A, !abs`, 0x45, R292 -/
  | eorAAbs (m : Word)
  /-- `EOR A, [dp+X]`, 0x47, R296 -/
  | eorADpXInd (dp : Byte)
  /-- `EOR A, #imm`, 0x48, R298 -/
  | eorAImm (imm : Byte)
  /-- `EOR dd, ss`, 0x49, R300 -/
  | eorDdSs (dd : Byte) (ss : Byte)
  /-- `AND1 C, m.b`, 0x4A, R503 -/
  | and1CMb (m : Word) (bit : Fin 8)
  /-- `LSR dp`, 0x4B, R364 -/
  | lsrDp (dp : Byte)
  /-- `LSR !abs`, 0x4C, R366 -/
  | lsrAbs (m : Word)
  /-- `TCLR1 !abs`, 0x4E, R487 -/
  | tclr1 (m : Word)
  /-- `PCALL up`, 0x4F, R444 -/
  | pcall (up : Byte)
  /-- `BVC rel`, 0x50, R414 -/
  | bvc (rel : Byte)
  /-- `CLR1 dp.2`, 0x52, R475 -/
  | clr1Bit2 (dp : Byte)
  /-- `BBC dp.2, rel`, 0x53, R426 -/
  | bbcBit2 (dp : Byte) (rel : Byte)
  /-- `EOR A, dp+X`, 0x54, R291 -/
  | eorADpX (dp : Byte)
  /-- `EOR A, !abs+X`, 0x55, R293 -/
  | eorAAbsX (m : Word)
  /-- `EOR A, !abs+Y`, 0x56, R295 -/
  | eorAAbsY (m : Word)
  /-- `EOR A, [dp]+Y`, 0x57, R297 -/
  | eorADpIndY (dp : Byte)
  /-- `EOR dp, #imm`, 0x58, R299 -/
  | eorDpImm (dp : Byte) (imm : Byte)
  /-- `CMPW YA, dp`, 0x5A, R399 -/
  | cmpw (dp : Byte)
  /-- `LSR dp+X`, 0x5B, R365 -/
  | lsrDpX (dp : Byte)
  /-- `CMP Y, !abs`, 0x5E, R343 -/
  | cmpYAbs (m : Word)
  /-- `JMP !abs`, 0x5F, R441 -/
  | jmpAbs (m : Word)
  /-- `SET1 dp.3`, 0x62, R476 -/
  | set1Bit3 (dp : Byte)
  /-- `BBS dp.3, rel`, 0x63, R427 -/
  | bbsBit3 (dp : Byte) (rel : Byte)
  /-- `CMP A, dp`, 0x64, R302 -/
  | cmpADp (dp : Byte)
  /-- `CMP A, !abs`, 0x65, R304 -/
  | cmpAAbs (m : Word)
  /-- `CMP A, [dp+X]`, 0x67, R308 -/
  | cmpADpXInd (dp : Byte)
  /-- `CMP A, #imm`, 0x68, R310 -/
  | cmpAImm (imm : Byte)
  /-- `CMP dd, ss`, 0x69, R312 -/
  | cmpDdSs (dd : Byte) (ss : Byte)
  /-- `AND1 C, /m.b`, 0x6A, R504 -/
  | and1CNotMb (m : Word) (bit : Fin 8)
  /-- `ROR dp`, 0x6B, R368 -/
  | rorDp (dp : Byte)
  /-- `ROR !abs`, 0x6C, R370 -/
  | rorAbs (m : Word)
  /-- `DBNZ dp, rel`, 0x6E, R439 -/
  | dbnzDp (dp : Byte) (rel : Byte)
  /-- `BVS rel`, 0x70, R415 -/
  | bvs (rel : Byte)
  /-- `CLR1 dp.3`, 0x72, R477 -/
  | clr1Bit3 (dp : Byte)
  /-- `BBC dp.3, rel`, 0x73, R428 -/
  | bbcBit3 (dp : Byte) (rel : Byte)
  /-- `CMP A, dp+X`, 0x74, R303 -/
  | cmpADpX (dp : Byte)
  /-- `CMP A, !abs+X`, 0x75, R305 -/
  | cmpAAbsX (m : Word)
  /-- `CMP A, !abs+Y`, 0x76, R307 -/
  | cmpAAbsY (m : Word)
  /-- `CMP A, [dp]+Y`, 0x77, R309 -/
  | cmpADpIndY (dp : Byte)
  /-- `CMP dp, #imm`, 0x78, R311 -/
  | cmpDpImm (dp : Byte) (imm : Byte)
  /-- `ADDW YA, dp`, 0x7A, R397 -/
  | addw (dp : Byte)
  /-- `ROR dp+X`, 0x7B, R369 -/
  | rorDpX (dp : Byte)
  /-- `CMP Y, dp`, 0x7E, R342 -/
  | cmpYDp (dp : Byte)
  /-- `SET1 dp.4`, 0x82, R478 -/
  | set1Bit4 (dp : Byte)
  /-- `BBS dp.4, rel`, 0x83, R429 -/
  | bbsBit4 (dp : Byte) (rel : Byte)
  /-- `ADC A, dp`, 0x84, R314 -/
  | adcADp (dp : Byte)
  /-- `ADC A, !abs`, 0x85, R316 -/
  | adcAAbs (m : Word)
  /-- `ADC A, [dp+X]`, 0x87, R320 -/
  | adcADpXInd (dp : Byte)
  /-- `ADC A, #imm`, 0x88, R322 -/
  | adcAImm (imm : Byte)
  /-- `ADC dd, ss`, 0x89, R324 -/
  | adcDdSs (dd : Byte) (ss : Byte)
  /-- `EOR1 C, m.b`, 0x8A, R505 -/
  | eor1CMb (m : Word) (bit : Fin 8)
  /-- `DEC dp`, 0x8B, R372 -/
  | decDp (dp : Byte)
  /-- `DEC !abs`, 0x8C, R374 -/
  | decAbs (m : Word)
  /-- `MOV Y, #imm`, 0x8D, R214 -/
  | movYImm (imm : Byte)
  /-- `MOV dp, #imm`, 0x8F, R240 -/
  | movDpImm (dp : Byte) (imm : Byte)
  /-- `BCC rel`, 0x90, R416 -/
  | bcc (rel : Byte)
  /-- `CLR1 dp.4`, 0x92, R479 -/
  | clr1Bit4 (dp : Byte)
  /-- `BBC dp.4, rel`, 0x93, R430 -/
  | bbcBit4 (dp : Byte) (rel : Byte)
  /-- `ADC A, dp+X`, 0x94, R315 -/
  | adcADpX (dp : Byte)
  /-- `ADC A, !abs+X`, 0x95, R317 -/
  | adcAAbsX (m : Word)
  /-- `ADC A, !abs+Y`, 0x96, R319 -/
  | adcAAbsY (m : Word)
  /-- `ADC A, [dp]+Y`, 0x97, R321 -/
  | adcADpIndY (dp : Byte)
  /-- `ADC dp, #imm`, 0x98, R323 -/
  | adcDpImm (dp : Byte) (imm : Byte)
  /-- `SUBW YA, dp`, 0x9A, R398 -/
  | subw (dp : Byte)
  /-- `DEC dp+X`, 0x9B, R373 -/
  | decDpX (dp : Byte)
  /-- `SET1 dp.5`, 0xA2, R480 -/
  | set1Bit5 (dp : Byte)
  /-- `BBS dp.5, rel`, 0xA3, R431 -/
  | bbsBit5 (dp : Byte) (rel : Byte)
  /-- `SBC A, dp`, 0xA4, R326 -/
  | sbcADp (dp : Byte)
  /-- `SBC A, !abs`, 0xA5, R328 -/
  | sbcAAbs (m : Word)
  /-- `SBC A, [dp+X]`, 0xA7, R332 -/
  | sbcADpXInd (dp : Byte)
  /-- `SBC A, #imm`, 0xA8, R334 -/
  | sbcAImm (imm : Byte)
  /-- `SBC dd, ss`, 0xA9, R336 -/
  | sbcDdSs (dd : Byte) (ss : Byte)
  /-- `MOV1 C, m.b`, 0xAA, R506 -/
  | mov1CMb (m : Word) (bit : Fin 8)
  /-- `INC dp`, 0xAB, R376 -/
  | incDp (dp : Byte)
  /-- `INC !abs`, 0xAC, R378 -/
  | incAbs (m : Word)
  /-- `CMP Y, #imm`, 0xAD, R341 -/
  | cmpYImm (imm : Byte)
  /-- `BCS rel`, 0xB0, R417 -/
  | bcs (rel : Byte)
  /-- `CLR1 dp.5`, 0xB2, R481 -/
  | clr1Bit5 (dp : Byte)
  /-- `BBC dp.5, rel`, 0xB3, R432 -/
  | bbcBit5 (dp : Byte) (rel : Byte)
  /-- `SBC A, dp+X`, 0xB4, R327 -/
  | sbcADpX (dp : Byte)
  /-- `SBC A, !abs+X`, 0xB5, R329 -/
  | sbcAAbsX (m : Word)
  /-- `SBC A, !abs+Y`, 0xB6, R331 -/
  | sbcAAbsY (m : Word)
  /-- `SBC A, [dp]+Y`, 0xB7, R333 -/
  | sbcADpIndY (dp : Byte)
  /-- `SBC dp, #imm`, 0xB8, R335 -/
  | sbcDpImm (dp : Byte) (imm : Byte)
  /-- `MOVW YA, dp`, 0xBA, R393 -/
  | movwYaDp (dp : Byte)
  /-- `INC dp+X`, 0xBB, R377 -/
  | incDpX (dp : Byte)
  /-- `SET1 dp.6`, 0xC2, R482 -/
  | set1Bit6 (dp : Byte)
  /-- `BBS dp.6, rel`, 0xC3, R433 -/
  | bbsBit6 (dp : Byte) (rel : Byte)
  /-- `MOV dp, A`, 0xC4, R220 -/
  | movDpFromA (dp : Byte)
  /-- `MOV !abs, A`, 0xC5, R222 -/
  | movAbsFromA (m : Word)
  /-- `MOV [dp+X], A`, 0xC7, R225 -/
  | movDpXIndFromA (dp : Byte)
  /-- `CMP X, #imm`, 0xC8, R338 -/
  | cmpXImm (imm : Byte)
  /-- `MOV !abs, X`, 0xC9, R229 -/
  | movAbsFromX (m : Word)
  /-- `MOV1 m.b, C`, 0xCA, R507 -/
  | mov1MbFromC (m : Word) (bit : Fin 8)
  /-- `MOV dp, Y`, 0xCB, R230 -/
  | movDpFromY (dp : Byte)
  /-- `MOV !abs, Y`, 0xCC, R232 -/
  | movAbsFromY (m : Word)
  /-- `MOV X, #imm`, 0xCD, R210 -/
  | movXImm (imm : Byte)
  /-- `BNE rel`, 0xD0, R418 -/
  | bne (rel : Byte)
  /-- `CLR1 dp.6`, 0xD2, R483 -/
  | clr1Bit6 (dp : Byte)
  /-- `BBC dp.6, rel`, 0xD3, R434 -/
  | bbcBit6 (dp : Byte) (rel : Byte)
  /-- `MOV dp+X, A`, 0xD4, R221 -/
  | movDpXFromA (dp : Byte)
  /-- `MOV !abs+X, A`, 0xD5, R223 -/
  | movAbsXFromA (m : Word)
  /-- `MOV !abs+Y, A`, 0xD6, R224 -/
  | movAbsYFromA (m : Word)
  /-- `MOV [dp]+Y, A`, 0xD7, R226 -/
  | movDpIndYFromA (dp : Byte)
  /-- `MOV dp, X`, 0xD8, R227 -/
  | movDpFromX (dp : Byte)
  /-- `MOV dp+Y, X`, 0xD9, R228 -/
  | movDpYFromX (dp : Byte)
  /-- `MOVW dp, YA`, 0xDA, R394 -/
  | movwDpYa (dp : Byte)
  /-- `MOV dp+X, Y`, 0xDB, R231 -/
  | movDpXFromY (dp : Byte)
  /-- `CBNE dp+X, rel`, 0xDE, R438 -/
  | cbneDpX (dp : Byte) (rel : Byte)
  /-- `SET1 dp.7`, 0xE2, R484 -/
  | set1Bit7 (dp : Byte)
  /-- `BBS dp.7, rel`, 0xE3, R435 -/
  | bbsBit7 (dp : Byte) (rel : Byte)
  /-- `MOV A, dp`, 0xE4, R203 -/
  | movADp (dp : Byte)
  /-- `MOV A, !abs`, 0xE5, R205 -/
  | movAAbs (m : Word)
  /-- `MOV A, [dp+X]`, 0xE7, R208 -/
  | movADpXInd (dp : Byte)
  /-- `MOV A, #imm`, 0xE8, R200 -/
  | movAImm (imm : Byte)
  /-- `MOV X, !abs`, 0xE9, R213 -/
  | movXAbs (m : Word)
  /-- `NOT1 m.b`, 0xEA, R508 -/
  | not1 (m : Word) (bit : Fin 8)
  /-- `MOV Y, dp`, 0xEB, R215 -/
  | movYDp (dp : Byte)
  /-- `MOV Y, !abs`, 0xEC, R217 -/
  | movYAbs (m : Word)
  /-- `BEQ rel`, 0xF0, R419 -/
  | beq (rel : Byte)
  /-- `CLR1 dp.7`, 0xF2, R485 -/
  | clr1Bit7 (dp : Byte)
  /-- `BBC dp.7, rel`, 0xF3, R436 -/
  | bbcBit7 (dp : Byte) (rel : Byte)
  /-- `MOV A, dp+X`, 0xF4, R204 -/
  | movADpX (dp : Byte)
  /-- `MOV A, !abs+X`, 0xF5, R206 -/
  | movAAbsX (m : Word)
  /-- `MOV A, !abs+Y`, 0xF6, R207 -/
  | movAAbsY (m : Word)
  /-- `MOV A, [dp]+Y`, 0xF7, R209 -/
  | movADpIndY (dp : Byte)
  /-- `MOV X, dp`, 0xF8, R211 -/
  | movXDp (dp : Byte)
  /-- `MOV X, dp+Y`, 0xF9, R212 -/
  | movXDpY (dp : Byte)
  /-- `MOV dd, ss`, 0xFA, R239 -/
  | movDdSs (dd : Byte) (ss : Byte)
  /-- `MOV Y, dp+X`, 0xFB, R216 -/
  | movYDpX (dp : Byte)
  /-- `DBNZ Y, rel`, 0xFE, R440 -/
  | dbnzY (rel : Byte)
  /-- `NOP`, 0x00, R493 -/
  | nop
  /-- `TCALL 0`, 0x01, R445 -/
  | tcall0
  /-- `OR A, (X)`, 0x06, R270 -/
  | orAIndX
  /-- `PUSH PSW`, 0x0D, R465 -/
  | pushPsw
  /-- `BRK`, 0x0F, R514 -/
  | brk
  /-- `TCALL 1`, 0x11, R446 -/
  | tcall1
  /-- `OR (X), (Y)`, 0x19, R277 -/
  | orIndXIndY
  /-- `ASL A`, 0x1C, R359 -/
  | aslA
  /-- `DEC X`, 0x1D, R380 -/
  | decX
  /-- `CLRP`, 0x20, R491 -/
  | clrp
  /-- `TCALL 2`, 0x21, R447 -/
  | tcall2
  /-- `AND A, (X)`, 0x26, R282 -/
  | andAIndX
  /-- `PUSH A`, 0x2D, R462 -/
  | pushA
  /-- `TCALL 3`, 0x31, R448 -/
  | tcall3
  /-- `AND (X), (Y)`, 0x39, R289 -/
  | andIndXIndY
  /-- `ROL A`, 0x3C, R363 -/
  | rolA
  /-- `INC X`, 0x3D, R381 -/
  | incX
  /-- `SETP`, 0x40, R492 -/
  | setp
  /-- `TCALL 4`, 0x41, R449 -/
  | tcall4
  /-- `EOR A, (X)`, 0x46, R294 -/
  | eorAIndX
  /-- `PUSH X`, 0x4D, R463 -/
  | pushX
  /-- `TCALL 5`, 0x51, R450 -/
  | tcall5
  /-- `EOR (X), (Y)`, 0x59, R301 -/
  | eorIndXIndY
  /-- `LSR A`, 0x5C, R367 -/
  | lsrA
  /-- `MOV X, A`, 0x5D, R235 -/
  | movXA
  /-- `CLRC`, 0x60, R488 -/
  | clrc
  /-- `TCALL 6`, 0x61, R451 -/
  | tcall6
  /-- `CMP A, (X)`, 0x66, R306 -/
  | cmpAIndX
  /-- `PUSH Y`, 0x6D, R464 -/
  | pushY
  /-- `RET`, 0x6F, R461 -/
  | ret
  /-- `TCALL 7`, 0x71, R452 -/
  | tcall7
  /-- `CMP (X), (Y)`, 0x79, R313 -/
  | cmpIndXIndY
  /-- `ROR A`, 0x7C, R371 -/
  | rorA
  /-- `MOV A, X`, 0x7D, R233 -/
  | movAX
  /-- `RETI`, 0x7F, R515 -/
  | reti
  /-- `SETC`, 0x80, R489 -/
  | setc
  /-- `TCALL 8`, 0x81, R453 -/
  | tcall8
  /-- `ADC A, (X)`, 0x86, R318 -/
  | adcAIndX
  /-- `POP PSW`, 0x8E, R469 -/
  | popPsw
  /-- `TCALL 9`, 0x91, R454 -/
  | tcall9
  /-- `ADC (X), (Y)`, 0x99, R325 -/
  | adcIndXIndY
  /-- `DEC A`, 0x9C, R375 -/
  | decA
  /-- `MOV X, SP`, 0x9D, R237 -/
  | movXSp
  /-- `DIV YA, X`, 0x9E, R401 -/
  | div
  /-- `XCN A`, 0x9F, R384 -/
  | xcn
  /-- `EI`, 0xA0, R510 -/
  | ei
  /-- `TCALL 10`, 0xA1, R455 -/
  | tcall10
  /-- `SBC A, (X)`, 0xA6, R330 -/
  | sbcAIndX
  /-- `POP A`, 0xAE, R466 -/
  | popA
  /-- `MOV (X)+, A`, 0xAF, R219 -/
  | movIndXIncFromA
  /-- `TCALL 11`, 0xB1, R456 -/
  | tcall11
  /-- `SBC (X), (Y)`, 0xB9, R337 -/
  | sbcIndXIndY
  /-- `INC A`, 0xBC, R379 -/
  | incA
  /-- `MOV SP, X`, 0xBD, R238 -/
  | movSpX
  /-- `DAS A`, 0xBE, R513 -/
  | das
  /-- `MOV A, (X)+`, 0xBF, R202 -/
  | movAIndXInc
  /-- `DI`, 0xC0, R511 -/
  | di
  /-- `TCALL 12`, 0xC1, R457 -/
  | tcall12
  /-- `MOV (X), A`, 0xC6, R218 -/
  | movIndXFromA
  /-- `POP X`, 0xCE, R467 -/
  | popX
  /-- `MUL YA`, 0xCF, R400 -/
  | mul
  /-- `TCALL 13`, 0xD1, R458 -/
  | tcall13
  /-- `DEC Y`, 0xDC, R382 -/
  | decY
  /-- `MOV A, Y`, 0xDD, R234 -/
  | movAY
  /-- `DAA A`, 0xDF, R512 -/
  | daa
  /-- `CLRV`, 0xE0, R509 -/
  | clrv
  /-- `TCALL 14`, 0xE1, R459 -/
  | tcall14
  /-- `MOV A, (X)`, 0xE6, R201 -/
  | movAIndX
  /-- `NOTC`, 0xED, R490 -/
  | notc
  /-- `POP Y`, 0xEE, R468 -/
  | popY
  /-- `SLEEP`, 0xEF, R516 -/
  | sleep
  /-- `TCALL 15`, 0xF1, R460 -/
  | tcall15
  /-- `INC Y`, 0xFC, R383 -/
  | incY
  /-- `MOV Y, A`, 0xFD, R236 -/
  | movYA
  /-- `STOP`, 0xFF, R517 -/
  | stop
  deriving DecidableEq, Repr

end Sys2Proof
end

