-- ==== Sys2Proof/WellFormed.lean ====
section
/-! DEFINITION. WellFormed.lean: which instruction terms have an encoding. The operand types rule out every other bad
field; the one check left is the 13-bit address of the memory-bit forms (R122, R500), of which only 0x0000-0x1FFF is
reachable. -/

namespace Sys2Proof

/-- R500: the address of a memory-bit operand is below 0x2000. -/
def bitAddrOk (m : Word) : Bool := decide (m < 0x2000)

/-- The check on an instruction's operands. -/
def Instr.wellFormed : Instr → Bool
  | .nop => true
  | .tcall0 => true
  | .set1Bit0 _ => true
  | .bbsBit0 _ _ => true
  | .orADp _ => true
  | .orAAbs _ => true
  | .orAIndX => true
  | .orADpXInd _ => true
  | .orAImm _ => true
  | .orDdSs _ _ => true
  | .or1CMb m _ => bitAddrOk m
  | .aslDp _ => true
  | .aslAbs _ => true
  | .pushPsw => true
  | .tset1 _ => true
  | .brk => true
  | .bpl _ => true
  | .tcall1 => true
  | .clr1Bit0 _ => true
  | .bbcBit0 _ _ => true
  | .orADpX _ => true
  | .orAAbsX _ => true
  | .orAAbsY _ => true
  | .orADpIndY _ => true
  | .orDpImm _ _ => true
  | .orIndXIndY => true
  | .decw _ => true
  | .aslDpX _ => true
  | .aslA => true
  | .decX => true
  | .cmpXAbs _ => true
  | .jmpAbsXInd _ => true
  | .clrp => true
  | .tcall2 => true
  | .set1Bit1 _ => true
  | .bbsBit1 _ _ => true
  | .andADp _ => true
  | .andAAbs _ => true
  | .andAIndX => true
  | .andADpXInd _ => true
  | .andAImm _ => true
  | .andDdSs _ _ => true
  | .or1CNotMb m _ => bitAddrOk m
  | .rolDp _ => true
  | .rolAbs _ => true
  | .pushA => true
  | .cbneDp _ _ => true
  | .bra _ => true
  | .bmi _ => true
  | .tcall3 => true
  | .clr1Bit1 _ => true
  | .bbcBit1 _ _ => true
  | .andADpX _ => true
  | .andAAbsX _ => true
  | .andAAbsY _ => true
  | .andADpIndY _ => true
  | .andDpImm _ _ => true
  | .andIndXIndY => true
  | .incw _ => true
  | .rolDpX _ => true
  | .rolA => true
  | .incX => true
  | .cmpXDp _ => true
  | .call _ => true
  | .setp => true
  | .tcall4 => true
  | .set1Bit2 _ => true
  | .bbsBit2 _ _ => true
  | .eorADp _ => true
  | .eorAAbs _ => true
  | .eorAIndX => true
  | .eorADpXInd _ => true
  | .eorAImm _ => true
  | .eorDdSs _ _ => true
  | .and1CMb m _ => bitAddrOk m
  | .lsrDp _ => true
  | .lsrAbs _ => true
  | .pushX => true
  | .tclr1 _ => true
  | .pcall _ => true
  | .bvc _ => true
  | .tcall5 => true
  | .clr1Bit2 _ => true
  | .bbcBit2 _ _ => true
  | .eorADpX _ => true
  | .eorAAbsX _ => true
  | .eorAAbsY _ => true
  | .eorADpIndY _ => true
  | .eorDpImm _ _ => true
  | .eorIndXIndY => true
  | .cmpw _ => true
  | .lsrDpX _ => true
  | .lsrA => true
  | .movXA => true
  | .cmpYAbs _ => true
  | .jmpAbs _ => true
  | .clrc => true
  | .tcall6 => true
  | .set1Bit3 _ => true
  | .bbsBit3 _ _ => true
  | .cmpADp _ => true
  | .cmpAAbs _ => true
  | .cmpAIndX => true
  | .cmpADpXInd _ => true
  | .cmpAImm _ => true
  | .cmpDdSs _ _ => true
  | .and1CNotMb m _ => bitAddrOk m
  | .rorDp _ => true
  | .rorAbs _ => true
  | .pushY => true
  | .dbnzDp _ _ => true
  | .ret => true
  | .bvs _ => true
  | .tcall7 => true
  | .clr1Bit3 _ => true
  | .bbcBit3 _ _ => true
  | .cmpADpX _ => true
  | .cmpAAbsX _ => true
  | .cmpAAbsY _ => true
  | .cmpADpIndY _ => true
  | .cmpDpImm _ _ => true
  | .cmpIndXIndY => true
  | .addw _ => true
  | .rorDpX _ => true
  | .rorA => true
  | .movAX => true
  | .cmpYDp _ => true
  | .reti => true
  | .setc => true
  | .tcall8 => true
  | .set1Bit4 _ => true
  | .bbsBit4 _ _ => true
  | .adcADp _ => true
  | .adcAAbs _ => true
  | .adcAIndX => true
  | .adcADpXInd _ => true
  | .adcAImm _ => true
  | .adcDdSs _ _ => true
  | .eor1CMb m _ => bitAddrOk m
  | .decDp _ => true
  | .decAbs _ => true
  | .movYImm _ => true
  | .popPsw => true
  | .movDpImm _ _ => true
  | .bcc _ => true
  | .tcall9 => true
  | .clr1Bit4 _ => true
  | .bbcBit4 _ _ => true
  | .adcADpX _ => true
  | .adcAAbsX _ => true
  | .adcAAbsY _ => true
  | .adcADpIndY _ => true
  | .adcDpImm _ _ => true
  | .adcIndXIndY => true
  | .subw _ => true
  | .decDpX _ => true
  | .decA => true
  | .movXSp => true
  | .div => true
  | .xcn => true
  | .ei => true
  | .tcall10 => true
  | .set1Bit5 _ => true
  | .bbsBit5 _ _ => true
  | .sbcADp _ => true
  | .sbcAAbs _ => true
  | .sbcAIndX => true
  | .sbcADpXInd _ => true
  | .sbcAImm _ => true
  | .sbcDdSs _ _ => true
  | .mov1CMb m _ => bitAddrOk m
  | .incDp _ => true
  | .incAbs _ => true
  | .cmpYImm _ => true
  | .popA => true
  | .movIndXIncFromA => true
  | .bcs _ => true
  | .tcall11 => true
  | .clr1Bit5 _ => true
  | .bbcBit5 _ _ => true
  | .sbcADpX _ => true
  | .sbcAAbsX _ => true
  | .sbcAAbsY _ => true
  | .sbcADpIndY _ => true
  | .sbcDpImm _ _ => true
  | .sbcIndXIndY => true
  | .movwYaDp _ => true
  | .incDpX _ => true
  | .incA => true
  | .movSpX => true
  | .das => true
  | .movAIndXInc => true
  | .di => true
  | .tcall12 => true
  | .set1Bit6 _ => true
  | .bbsBit6 _ _ => true
  | .movDpFromA _ => true
  | .movAbsFromA _ => true
  | .movIndXFromA => true
  | .movDpXIndFromA _ => true
  | .cmpXImm _ => true
  | .movAbsFromX _ => true
  | .mov1MbFromC m _ => bitAddrOk m
  | .movDpFromY _ => true
  | .movAbsFromY _ => true
  | .movXImm _ => true
  | .popX => true
  | .mul => true
  | .bne _ => true
  | .tcall13 => true
  | .clr1Bit6 _ => true
  | .bbcBit6 _ _ => true
  | .movDpXFromA _ => true
  | .movAbsXFromA _ => true
  | .movAbsYFromA _ => true
  | .movDpIndYFromA _ => true
  | .movDpFromX _ => true
  | .movDpYFromX _ => true
  | .movwDpYa _ => true
  | .movDpXFromY _ => true
  | .decY => true
  | .movAY => true
  | .cbneDpX _ _ => true
  | .daa => true
  | .clrv => true
  | .tcall14 => true
  | .set1Bit7 _ => true
  | .bbsBit7 _ _ => true
  | .movADp _ => true
  | .movAAbs _ => true
  | .movAIndX => true
  | .movADpXInd _ => true
  | .movAImm _ => true
  | .movXAbs _ => true
  | .not1 m _ => bitAddrOk m
  | .movYDp _ => true
  | .movYAbs _ => true
  | .notc => true
  | .popY => true
  | .sleep => true
  | .beq _ => true
  | .tcall15 => true
  | .clr1Bit7 _ => true
  | .bbcBit7 _ _ => true
  | .movADpX _ => true
  | .movAAbsX _ => true
  | .movAAbsY _ => true
  | .movADpIndY _ => true
  | .movXDp _ => true
  | .movXDpY _ => true
  | .movDdSs _ _ => true
  | .movYDpX _ => true
  | .incY => true
  | .movYA => true
  | .dbnzY _ => true
  | .stop => true

/-- A well-formed instruction. -/
def Instr.WellFormed (i : Instr) : Prop := i.wellFormed = true

end Sys2Proof
end

