-- ==== Sys2Proof/Decode.lean ====
section
/-! DEFINITION. Decode.lean: the opcode map with its lengths and cycle costs (R152, R158, R180), the decoder and the
encoder. Every opcode value is an instruction (R153, R159), so decoding fails only where bytes are missing. -/

namespace Sys2Proof

/-- R500: the 13-bit address of a memory-bit operand. -/
def bitAddr (b1 b2 : Byte) : Word := Word.mk b2 b1 &&& 0x1FFF

/-- R500: the bit number of a memory-bit operand, bits 7:5 of the third byte. -/
def bitNumber (_b1 b2 : Byte) : Fin 8 := (b2.extractLsb' 5 3).toFin

/-- R152: the third byte of a memory-bit operand. -/
def bitHigh (m : Word) (bit : Fin 8) : Byte := (BitVec.ofFin bit : BitVec 3) ++ m.extractLsb' 8 5

/-- R150, R152: an opcode's length and how its operand bytes `b1` and `b2` make the instruction. -/
inductive Layout where
  | one (i : Instr)
  | two (f : Byte → Instr)
  | three (f : Byte → Byte → Instr)

/-- R180: LEN. -/
def Layout.length : Layout → Nat
  | .one _ => 1
  | .two _ => 2
  | .three _ => 3

/-- The instruction of an opcode with operand bytes `b1` and `b2`; a shorter opcode ignores what it does not have
(R151, R174). -/
def Layout.build (b1 b2 : Byte) : Layout → Instr
  | .one i => i
  | .two f => f b1
  | .three f => f b1 b2

/-- One cell of the opcode map (R158) with its cost (R180). -/
structure OpInfo where
  layout : Layout
  cycles : Nat

/-- R158, R180: opcodes 0x00-0x0F. -/
def opRow0 : List OpInfo :=
  [ ⟨.one .nop, 2⟩,
    ⟨.one .tcall0, 8⟩,
    ⟨.two .set1Bit0, 4⟩,
    ⟨.three .bbsBit0, 7⟩,
    ⟨.two .orADp, 3⟩,
    ⟨.three fun lo hi => .orAAbs (Word.mk hi lo), 4⟩,
    ⟨.one .orAIndX, 3⟩,
    ⟨.two .orADpXInd, 6⟩,
    ⟨.two .orAImm, 2⟩,
    ⟨.three fun ss dd => .orDdSs dd ss, 6⟩,
    ⟨.three fun b1 b2 => .or1CMb (bitAddr b1 b2) (bitNumber b1 b2), 5⟩,
    ⟨.two .aslDp, 4⟩,
    ⟨.three fun lo hi => .aslAbs (Word.mk hi lo), 5⟩,
    ⟨.one .pushPsw, 4⟩,
    ⟨.three fun lo hi => .tset1 (Word.mk hi lo), 6⟩,
    ⟨.one .brk, 8⟩ ]

/-- R158, R180: opcodes 0x10-0x1F. -/
def opRow1 : List OpInfo :=
  [ ⟨.two .bpl, 4⟩,
    ⟨.one .tcall1, 8⟩,
    ⟨.two .clr1Bit0, 4⟩,
    ⟨.three .bbcBit0, 7⟩,
    ⟨.two .orADpX, 4⟩,
    ⟨.three fun lo hi => .orAAbsX (Word.mk hi lo), 5⟩,
    ⟨.three fun lo hi => .orAAbsY (Word.mk hi lo), 5⟩,
    ⟨.two .orADpIndY, 6⟩,
    ⟨.three fun imm dp => .orDpImm dp imm, 5⟩,
    ⟨.one .orIndXIndY, 5⟩,
    ⟨.two .decw, 6⟩,
    ⟨.two .aslDpX, 5⟩,
    ⟨.one .aslA, 2⟩,
    ⟨.one .decX, 2⟩,
    ⟨.three fun lo hi => .cmpXAbs (Word.mk hi lo), 4⟩,
    ⟨.three fun lo hi => .jmpAbsXInd (Word.mk hi lo), 6⟩ ]

/-- R158, R180: opcodes 0x20-0x2F. -/
def opRow2 : List OpInfo :=
  [ ⟨.one .clrp, 2⟩,
    ⟨.one .tcall2, 8⟩,
    ⟨.two .set1Bit1, 4⟩,
    ⟨.three .bbsBit1, 7⟩,
    ⟨.two .andADp, 3⟩,
    ⟨.three fun lo hi => .andAAbs (Word.mk hi lo), 4⟩,
    ⟨.one .andAIndX, 3⟩,
    ⟨.two .andADpXInd, 6⟩,
    ⟨.two .andAImm, 2⟩,
    ⟨.three fun ss dd => .andDdSs dd ss, 6⟩,
    ⟨.three fun b1 b2 => .or1CNotMb (bitAddr b1 b2) (bitNumber b1 b2), 5⟩,
    ⟨.two .rolDp, 4⟩,
    ⟨.three fun lo hi => .rolAbs (Word.mk hi lo), 5⟩,
    ⟨.one .pushA, 4⟩,
    ⟨.three .cbneDp, 7⟩,
    ⟨.two .bra, 4⟩ ]

/-- R158, R180: opcodes 0x30-0x3F. -/
def opRow3 : List OpInfo :=
  [ ⟨.two .bmi, 4⟩,
    ⟨.one .tcall3, 8⟩,
    ⟨.two .clr1Bit1, 4⟩,
    ⟨.three .bbcBit1, 7⟩,
    ⟨.two .andADpX, 4⟩,
    ⟨.three fun lo hi => .andAAbsX (Word.mk hi lo), 5⟩,
    ⟨.three fun lo hi => .andAAbsY (Word.mk hi lo), 5⟩,
    ⟨.two .andADpIndY, 6⟩,
    ⟨.three fun imm dp => .andDpImm dp imm, 5⟩,
    ⟨.one .andIndXIndY, 5⟩,
    ⟨.two .incw, 6⟩,
    ⟨.two .rolDpX, 5⟩,
    ⟨.one .rolA, 2⟩,
    ⟨.one .incX, 2⟩,
    ⟨.two .cmpXDp, 3⟩,
    ⟨.three fun lo hi => .call (Word.mk hi lo), 8⟩ ]

/-- R158, R180: opcodes 0x40-0x4F. -/
def opRow4 : List OpInfo :=
  [ ⟨.one .setp, 2⟩,
    ⟨.one .tcall4, 8⟩,
    ⟨.two .set1Bit2, 4⟩,
    ⟨.three .bbsBit2, 7⟩,
    ⟨.two .eorADp, 3⟩,
    ⟨.three fun lo hi => .eorAAbs (Word.mk hi lo), 4⟩,
    ⟨.one .eorAIndX, 3⟩,
    ⟨.two .eorADpXInd, 6⟩,
    ⟨.two .eorAImm, 2⟩,
    ⟨.three fun ss dd => .eorDdSs dd ss, 6⟩,
    ⟨.three fun b1 b2 => .and1CMb (bitAddr b1 b2) (bitNumber b1 b2), 4⟩,
    ⟨.two .lsrDp, 4⟩,
    ⟨.three fun lo hi => .lsrAbs (Word.mk hi lo), 5⟩,
    ⟨.one .pushX, 4⟩,
    ⟨.three fun lo hi => .tclr1 (Word.mk hi lo), 6⟩,
    ⟨.two .pcall, 6⟩ ]

/-- R158, R180: opcodes 0x50-0x5F. -/
def opRow5 : List OpInfo :=
  [ ⟨.two .bvc, 4⟩,
    ⟨.one .tcall5, 8⟩,
    ⟨.two .clr1Bit2, 4⟩,
    ⟨.three .bbcBit2, 7⟩,
    ⟨.two .eorADpX, 4⟩,
    ⟨.three fun lo hi => .eorAAbsX (Word.mk hi lo), 5⟩,
    ⟨.three fun lo hi => .eorAAbsY (Word.mk hi lo), 5⟩,
    ⟨.two .eorADpIndY, 6⟩,
    ⟨.three fun imm dp => .eorDpImm dp imm, 5⟩,
    ⟨.one .eorIndXIndY, 5⟩,
    ⟨.two .cmpw, 4⟩,
    ⟨.two .lsrDpX, 5⟩,
    ⟨.one .lsrA, 2⟩,
    ⟨.one .movXA, 2⟩,
    ⟨.three fun lo hi => .cmpYAbs (Word.mk hi lo), 4⟩,
    ⟨.three fun lo hi => .jmpAbs (Word.mk hi lo), 3⟩ ]

/-- R158, R180: opcodes 0x60-0x6F. -/
def opRow6 : List OpInfo :=
  [ ⟨.one .clrc, 2⟩,
    ⟨.one .tcall6, 8⟩,
    ⟨.two .set1Bit3, 4⟩,
    ⟨.three .bbsBit3, 7⟩,
    ⟨.two .cmpADp, 3⟩,
    ⟨.three fun lo hi => .cmpAAbs (Word.mk hi lo), 4⟩,
    ⟨.one .cmpAIndX, 3⟩,
    ⟨.two .cmpADpXInd, 6⟩,
    ⟨.two .cmpAImm, 2⟩,
    ⟨.three fun ss dd => .cmpDdSs dd ss, 6⟩,
    ⟨.three fun b1 b2 => .and1CNotMb (bitAddr b1 b2) (bitNumber b1 b2), 4⟩,
    ⟨.two .rorDp, 4⟩,
    ⟨.three fun lo hi => .rorAbs (Word.mk hi lo), 5⟩,
    ⟨.one .pushY, 4⟩,
    ⟨.three .dbnzDp, 7⟩,
    ⟨.one .ret, 5⟩ ]

/-- R158, R180: opcodes 0x70-0x7F. -/
def opRow7 : List OpInfo :=
  [ ⟨.two .bvs, 4⟩,
    ⟨.one .tcall7, 8⟩,
    ⟨.two .clr1Bit3, 4⟩,
    ⟨.three .bbcBit3, 7⟩,
    ⟨.two .cmpADpX, 4⟩,
    ⟨.three fun lo hi => .cmpAAbsX (Word.mk hi lo), 5⟩,
    ⟨.three fun lo hi => .cmpAAbsY (Word.mk hi lo), 5⟩,
    ⟨.two .cmpADpIndY, 6⟩,
    ⟨.three fun imm dp => .cmpDpImm dp imm, 5⟩,
    ⟨.one .cmpIndXIndY, 5⟩,
    ⟨.two .addw, 5⟩,
    ⟨.two .rorDpX, 5⟩,
    ⟨.one .rorA, 2⟩,
    ⟨.one .movAX, 2⟩,
    ⟨.two .cmpYDp, 3⟩,
    ⟨.one .reti, 6⟩ ]

/-- R158, R180: opcodes 0x80-0x8F. -/
def opRow8 : List OpInfo :=
  [ ⟨.one .setc, 2⟩,
    ⟨.one .tcall8, 8⟩,
    ⟨.two .set1Bit4, 4⟩,
    ⟨.three .bbsBit4, 7⟩,
    ⟨.two .adcADp, 3⟩,
    ⟨.three fun lo hi => .adcAAbs (Word.mk hi lo), 4⟩,
    ⟨.one .adcAIndX, 3⟩,
    ⟨.two .adcADpXInd, 6⟩,
    ⟨.two .adcAImm, 2⟩,
    ⟨.three fun ss dd => .adcDdSs dd ss, 6⟩,
    ⟨.three fun b1 b2 => .eor1CMb (bitAddr b1 b2) (bitNumber b1 b2), 5⟩,
    ⟨.two .decDp, 4⟩,
    ⟨.three fun lo hi => .decAbs (Word.mk hi lo), 5⟩,
    ⟨.two .movYImm, 2⟩,
    ⟨.one .popPsw, 4⟩,
    ⟨.three fun imm dp => .movDpImm dp imm, 5⟩ ]

/-- R158, R180: opcodes 0x90-0x9F. -/
def opRow9 : List OpInfo :=
  [ ⟨.two .bcc, 4⟩,
    ⟨.one .tcall9, 8⟩,
    ⟨.two .clr1Bit4, 4⟩,
    ⟨.three .bbcBit4, 7⟩,
    ⟨.two .adcADpX, 4⟩,
    ⟨.three fun lo hi => .adcAAbsX (Word.mk hi lo), 5⟩,
    ⟨.three fun lo hi => .adcAAbsY (Word.mk hi lo), 5⟩,
    ⟨.two .adcADpIndY, 6⟩,
    ⟨.three fun imm dp => .adcDpImm dp imm, 5⟩,
    ⟨.one .adcIndXIndY, 5⟩,
    ⟨.two .subw, 5⟩,
    ⟨.two .decDpX, 5⟩,
    ⟨.one .decA, 2⟩,
    ⟨.one .movXSp, 2⟩,
    ⟨.one .div, 12⟩,
    ⟨.one .xcn, 5⟩ ]

/-- R158, R180: opcodes 0xA0-0xAF. -/
def opRowA : List OpInfo :=
  [ ⟨.one .ei, 3⟩,
    ⟨.one .tcall10, 8⟩,
    ⟨.two .set1Bit5, 4⟩,
    ⟨.three .bbsBit5, 7⟩,
    ⟨.two .sbcADp, 3⟩,
    ⟨.three fun lo hi => .sbcAAbs (Word.mk hi lo), 4⟩,
    ⟨.one .sbcAIndX, 3⟩,
    ⟨.two .sbcADpXInd, 6⟩,
    ⟨.two .sbcAImm, 2⟩,
    ⟨.three fun ss dd => .sbcDdSs dd ss, 6⟩,
    ⟨.three fun b1 b2 => .mov1CMb (bitAddr b1 b2) (bitNumber b1 b2), 4⟩,
    ⟨.two .incDp, 4⟩,
    ⟨.three fun lo hi => .incAbs (Word.mk hi lo), 5⟩,
    ⟨.two .cmpYImm, 2⟩,
    ⟨.one .popA, 4⟩,
    ⟨.one .movIndXIncFromA, 4⟩ ]

/-- R158, R180: opcodes 0xB0-0xBF. -/
def opRowB : List OpInfo :=
  [ ⟨.two .bcs, 4⟩,
    ⟨.one .tcall11, 8⟩,
    ⟨.two .clr1Bit5, 4⟩,
    ⟨.three .bbcBit5, 7⟩,
    ⟨.two .sbcADpX, 4⟩,
    ⟨.three fun lo hi => .sbcAAbsX (Word.mk hi lo), 5⟩,
    ⟨.three fun lo hi => .sbcAAbsY (Word.mk hi lo), 5⟩,
    ⟨.two .sbcADpIndY, 6⟩,
    ⟨.three fun imm dp => .sbcDpImm dp imm, 5⟩,
    ⟨.one .sbcIndXIndY, 5⟩,
    ⟨.two .movwYaDp, 5⟩,
    ⟨.two .incDpX, 5⟩,
    ⟨.one .incA, 2⟩,
    ⟨.one .movSpX, 2⟩,
    ⟨.one .das, 3⟩,
    ⟨.one .movAIndXInc, 4⟩ ]

/-- R158, R180: opcodes 0xC0-0xCF. -/
def opRowC : List OpInfo :=
  [ ⟨.one .di, 3⟩,
    ⟨.one .tcall12, 8⟩,
    ⟨.two .set1Bit6, 4⟩,
    ⟨.three .bbsBit6, 7⟩,
    ⟨.two .movDpFromA, 4⟩,
    ⟨.three fun lo hi => .movAbsFromA (Word.mk hi lo), 5⟩,
    ⟨.one .movIndXFromA, 4⟩,
    ⟨.two .movDpXIndFromA, 7⟩,
    ⟨.two .cmpXImm, 2⟩,
    ⟨.three fun lo hi => .movAbsFromX (Word.mk hi lo), 5⟩,
    ⟨.three fun b1 b2 => .mov1MbFromC (bitAddr b1 b2) (bitNumber b1 b2), 6⟩,
    ⟨.two .movDpFromY, 4⟩,
    ⟨.three fun lo hi => .movAbsFromY (Word.mk hi lo), 5⟩,
    ⟨.two .movXImm, 2⟩,
    ⟨.one .popX, 4⟩,
    ⟨.one .mul, 9⟩ ]

/-- R158, R180: opcodes 0xD0-0xDF. -/
def opRowD : List OpInfo :=
  [ ⟨.two .bne, 4⟩,
    ⟨.one .tcall13, 8⟩,
    ⟨.two .clr1Bit6, 4⟩,
    ⟨.three .bbcBit6, 7⟩,
    ⟨.two .movDpXFromA, 5⟩,
    ⟨.three fun lo hi => .movAbsXFromA (Word.mk hi lo), 6⟩,
    ⟨.three fun lo hi => .movAbsYFromA (Word.mk hi lo), 6⟩,
    ⟨.two .movDpIndYFromA, 7⟩,
    ⟨.two .movDpFromX, 4⟩,
    ⟨.two .movDpYFromX, 5⟩,
    ⟨.two .movwDpYa, 5⟩,
    ⟨.two .movDpXFromY, 5⟩,
    ⟨.one .decY, 2⟩,
    ⟨.one .movAY, 2⟩,
    ⟨.three .cbneDpX, 8⟩,
    ⟨.one .daa, 3⟩ ]

/-- R158, R180: opcodes 0xE0-0xEF. -/
def opRowE : List OpInfo :=
  [ ⟨.one .clrv, 2⟩,
    ⟨.one .tcall14, 8⟩,
    ⟨.two .set1Bit7, 4⟩,
    ⟨.three .bbsBit7, 7⟩,
    ⟨.two .movADp, 3⟩,
    ⟨.three fun lo hi => .movAAbs (Word.mk hi lo), 4⟩,
    ⟨.one .movAIndX, 3⟩,
    ⟨.two .movADpXInd, 6⟩,
    ⟨.two .movAImm, 2⟩,
    ⟨.three fun lo hi => .movXAbs (Word.mk hi lo), 4⟩,
    ⟨.three fun b1 b2 => .not1 (bitAddr b1 b2) (bitNumber b1 b2), 5⟩,
    ⟨.two .movYDp, 3⟩,
    ⟨.three fun lo hi => .movYAbs (Word.mk hi lo), 4⟩,
    ⟨.one .notc, 3⟩,
    ⟨.one .popY, 4⟩,
    ⟨.one .sleep, 3⟩ ]

/-- R158, R180: opcodes 0xF0-0xFF. -/
def opRowF : List OpInfo :=
  [ ⟨.two .beq, 4⟩,
    ⟨.one .tcall15, 8⟩,
    ⟨.two .clr1Bit7, 4⟩,
    ⟨.three .bbcBit7, 7⟩,
    ⟨.two .movADpX, 4⟩,
    ⟨.three fun lo hi => .movAAbsX (Word.mk hi lo), 5⟩,
    ⟨.three fun lo hi => .movAAbsY (Word.mk hi lo), 5⟩,
    ⟨.two .movADpIndY, 6⟩,
    ⟨.two .movXDp, 3⟩,
    ⟨.two .movXDpY, 4⟩,
    ⟨.three fun ss dd => .movDdSs dd ss, 5⟩,
    ⟨.two .movYDpX, 4⟩,
    ⟨.one .incY, 2⟩,
    ⟨.one .movYA, 2⟩,
    ⟨.two .dbnzY, 6⟩,
    ⟨.one .stop, 3⟩ ]

/-- R158: the opcode map. -/
def opTable : List OpInfo :=
  opRow0 ++ (opRow1 ++ (opRow2 ++ (opRow3 ++ (opRow4 ++ (opRow5 ++ (opRow6 ++ (opRow7 ++
    (opRow8 ++ (opRow9 ++ (opRowA ++ (opRowB ++ (opRowC ++ (opRowD ++ (opRowE ++ opRowF))))))))))))))

theorem opTable_length : opTable.length = 256 := by
  simp only [opTable, List.length_append]; rfl

/-- The cell of opcode `op`. -/
def opInfo (op : Byte) : OpInfo := opTable[op.toNat]'(by rw [opTable_length]; exact op.isLt)

/-- R180: LEN[op]. -/
def opLength (op : Byte) : Nat := (opInfo op).layout.length

/-- R180: CYCLES[op]. -/
def opCycles (op : Byte) : Nat := (opInfo op).cycles

/-- Why bytes do not decode: there are too few of them. -/
inductive DecodeError where
  /-- no opcode byte -/
  | noBytes
  /-- the operand bytes of this opcode are missing -/
  | truncated (opcode : Byte)
  deriving DecidableEq, Repr

/-- R150, R151: the first instruction of a list of bytes and the bytes after it. -/
def decode : List Byte → Except DecodeError (Instr × List Byte)
  | [] => .error .noBytes
  | op :: bs =>
    match (opInfo op).layout, bs with
    | .one i, bs => .ok (i, bs)
    | .two f, b1 :: bs => .ok (f b1, bs)
    | .three f, b1 :: b2 :: bs => .ok (f b1 b2, bs)
    | .two _, [] => .error (.truncated op)
    | .three _, [] => .error (.truncated op)
    | .three _, [_] => .error (.truncated op)

/-- R152: the bytes of an instruction. -/
def encode : Instr → List Byte
  | .nop => [0x00]
  | .tcall0 => [0x01]
  | .set1Bit0 dp => [0x02, dp]
  | .bbsBit0 dp rel => [0x03, dp, rel]
  | .orADp dp => [0x04, dp]
  | .orAAbs m => [0x05, m.lo, m.hi]
  | .orAIndX => [0x06]
  | .orADpXInd dp => [0x07, dp]
  | .orAImm imm => [0x08, imm]
  | .orDdSs dd ss => [0x09, ss, dd]
  | .or1CMb m bit => [0x0A, m.lo, bitHigh m bit]
  | .aslDp dp => [0x0B, dp]
  | .aslAbs m => [0x0C, m.lo, m.hi]
  | .pushPsw => [0x0D]
  | .tset1 m => [0x0E, m.lo, m.hi]
  | .brk => [0x0F]
  | .bpl rel => [0x10, rel]
  | .tcall1 => [0x11]
  | .clr1Bit0 dp => [0x12, dp]
  | .bbcBit0 dp rel => [0x13, dp, rel]
  | .orADpX dp => [0x14, dp]
  | .orAAbsX m => [0x15, m.lo, m.hi]
  | .orAAbsY m => [0x16, m.lo, m.hi]
  | .orADpIndY dp => [0x17, dp]
  | .orDpImm dp imm => [0x18, imm, dp]
  | .orIndXIndY => [0x19]
  | .decw dp => [0x1A, dp]
  | .aslDpX dp => [0x1B, dp]
  | .aslA => [0x1C]
  | .decX => [0x1D]
  | .cmpXAbs m => [0x1E, m.lo, m.hi]
  | .jmpAbsXInd m => [0x1F, m.lo, m.hi]
  | .clrp => [0x20]
  | .tcall2 => [0x21]
  | .set1Bit1 dp => [0x22, dp]
  | .bbsBit1 dp rel => [0x23, dp, rel]
  | .andADp dp => [0x24, dp]
  | .andAAbs m => [0x25, m.lo, m.hi]
  | .andAIndX => [0x26]
  | .andADpXInd dp => [0x27, dp]
  | .andAImm imm => [0x28, imm]
  | .andDdSs dd ss => [0x29, ss, dd]
  | .or1CNotMb m bit => [0x2A, m.lo, bitHigh m bit]
  | .rolDp dp => [0x2B, dp]
  | .rolAbs m => [0x2C, m.lo, m.hi]
  | .pushA => [0x2D]
  | .cbneDp dp rel => [0x2E, dp, rel]
  | .bra rel => [0x2F, rel]
  | .bmi rel => [0x30, rel]
  | .tcall3 => [0x31]
  | .clr1Bit1 dp => [0x32, dp]
  | .bbcBit1 dp rel => [0x33, dp, rel]
  | .andADpX dp => [0x34, dp]
  | .andAAbsX m => [0x35, m.lo, m.hi]
  | .andAAbsY m => [0x36, m.lo, m.hi]
  | .andADpIndY dp => [0x37, dp]
  | .andDpImm dp imm => [0x38, imm, dp]
  | .andIndXIndY => [0x39]
  | .incw dp => [0x3A, dp]
  | .rolDpX dp => [0x3B, dp]
  | .rolA => [0x3C]
  | .incX => [0x3D]
  | .cmpXDp dp => [0x3E, dp]
  | .call m => [0x3F, m.lo, m.hi]
  | .setp => [0x40]
  | .tcall4 => [0x41]
  | .set1Bit2 dp => [0x42, dp]
  | .bbsBit2 dp rel => [0x43, dp, rel]
  | .eorADp dp => [0x44, dp]
  | .eorAAbs m => [0x45, m.lo, m.hi]
  | .eorAIndX => [0x46]
  | .eorADpXInd dp => [0x47, dp]
  | .eorAImm imm => [0x48, imm]
  | .eorDdSs dd ss => [0x49, ss, dd]
  | .and1CMb m bit => [0x4A, m.lo, bitHigh m bit]
  | .lsrDp dp => [0x4B, dp]
  | .lsrAbs m => [0x4C, m.lo, m.hi]
  | .pushX => [0x4D]
  | .tclr1 m => [0x4E, m.lo, m.hi]
  | .pcall up => [0x4F, up]
  | .bvc rel => [0x50, rel]
  | .tcall5 => [0x51]
  | .clr1Bit2 dp => [0x52, dp]
  | .bbcBit2 dp rel => [0x53, dp, rel]
  | .eorADpX dp => [0x54, dp]
  | .eorAAbsX m => [0x55, m.lo, m.hi]
  | .eorAAbsY m => [0x56, m.lo, m.hi]
  | .eorADpIndY dp => [0x57, dp]
  | .eorDpImm dp imm => [0x58, imm, dp]
  | .eorIndXIndY => [0x59]
  | .cmpw dp => [0x5A, dp]
  | .lsrDpX dp => [0x5B, dp]
  | .lsrA => [0x5C]
  | .movXA => [0x5D]
  | .cmpYAbs m => [0x5E, m.lo, m.hi]
  | .jmpAbs m => [0x5F, m.lo, m.hi]
  | .clrc => [0x60]
  | .tcall6 => [0x61]
  | .set1Bit3 dp => [0x62, dp]
  | .bbsBit3 dp rel => [0x63, dp, rel]
  | .cmpADp dp => [0x64, dp]
  | .cmpAAbs m => [0x65, m.lo, m.hi]
  | .cmpAIndX => [0x66]
  | .cmpADpXInd dp => [0x67, dp]
  | .cmpAImm imm => [0x68, imm]
  | .cmpDdSs dd ss => [0x69, ss, dd]
  | .and1CNotMb m bit => [0x6A, m.lo, bitHigh m bit]
  | .rorDp dp => [0x6B, dp]
  | .rorAbs m => [0x6C, m.lo, m.hi]
  | .pushY => [0x6D]
  | .dbnzDp dp rel => [0x6E, dp, rel]
  | .ret => [0x6F]
  | .bvs rel => [0x70, rel]
  | .tcall7 => [0x71]
  | .clr1Bit3 dp => [0x72, dp]
  | .bbcBit3 dp rel => [0x73, dp, rel]
  | .cmpADpX dp => [0x74, dp]
  | .cmpAAbsX m => [0x75, m.lo, m.hi]
  | .cmpAAbsY m => [0x76, m.lo, m.hi]
  | .cmpADpIndY dp => [0x77, dp]
  | .cmpDpImm dp imm => [0x78, imm, dp]
  | .cmpIndXIndY => [0x79]
  | .addw dp => [0x7A, dp]
  | .rorDpX dp => [0x7B, dp]
  | .rorA => [0x7C]
  | .movAX => [0x7D]
  | .cmpYDp dp => [0x7E, dp]
  | .reti => [0x7F]
  | .setc => [0x80]
  | .tcall8 => [0x81]
  | .set1Bit4 dp => [0x82, dp]
  | .bbsBit4 dp rel => [0x83, dp, rel]
  | .adcADp dp => [0x84, dp]
  | .adcAAbs m => [0x85, m.lo, m.hi]
  | .adcAIndX => [0x86]
  | .adcADpXInd dp => [0x87, dp]
  | .adcAImm imm => [0x88, imm]
  | .adcDdSs dd ss => [0x89, ss, dd]
  | .eor1CMb m bit => [0x8A, m.lo, bitHigh m bit]
  | .decDp dp => [0x8B, dp]
  | .decAbs m => [0x8C, m.lo, m.hi]
  | .movYImm imm => [0x8D, imm]
  | .popPsw => [0x8E]
  | .movDpImm dp imm => [0x8F, imm, dp]
  | .bcc rel => [0x90, rel]
  | .tcall9 => [0x91]
  | .clr1Bit4 dp => [0x92, dp]
  | .bbcBit4 dp rel => [0x93, dp, rel]
  | .adcADpX dp => [0x94, dp]
  | .adcAAbsX m => [0x95, m.lo, m.hi]
  | .adcAAbsY m => [0x96, m.lo, m.hi]
  | .adcADpIndY dp => [0x97, dp]
  | .adcDpImm dp imm => [0x98, imm, dp]
  | .adcIndXIndY => [0x99]
  | .subw dp => [0x9A, dp]
  | .decDpX dp => [0x9B, dp]
  | .decA => [0x9C]
  | .movXSp => [0x9D]
  | .div => [0x9E]
  | .xcn => [0x9F]
  | .ei => [0xA0]
  | .tcall10 => [0xA1]
  | .set1Bit5 dp => [0xA2, dp]
  | .bbsBit5 dp rel => [0xA3, dp, rel]
  | .sbcADp dp => [0xA4, dp]
  | .sbcAAbs m => [0xA5, m.lo, m.hi]
  | .sbcAIndX => [0xA6]
  | .sbcADpXInd dp => [0xA7, dp]
  | .sbcAImm imm => [0xA8, imm]
  | .sbcDdSs dd ss => [0xA9, ss, dd]
  | .mov1CMb m bit => [0xAA, m.lo, bitHigh m bit]
  | .incDp dp => [0xAB, dp]
  | .incAbs m => [0xAC, m.lo, m.hi]
  | .cmpYImm imm => [0xAD, imm]
  | .popA => [0xAE]
  | .movIndXIncFromA => [0xAF]
  | .bcs rel => [0xB0, rel]
  | .tcall11 => [0xB1]
  | .clr1Bit5 dp => [0xB2, dp]
  | .bbcBit5 dp rel => [0xB3, dp, rel]
  | .sbcADpX dp => [0xB4, dp]
  | .sbcAAbsX m => [0xB5, m.lo, m.hi]
  | .sbcAAbsY m => [0xB6, m.lo, m.hi]
  | .sbcADpIndY dp => [0xB7, dp]
  | .sbcDpImm dp imm => [0xB8, imm, dp]
  | .sbcIndXIndY => [0xB9]
  | .movwYaDp dp => [0xBA, dp]
  | .incDpX dp => [0xBB, dp]
  | .incA => [0xBC]
  | .movSpX => [0xBD]
  | .das => [0xBE]
  | .movAIndXInc => [0xBF]
  | .di => [0xC0]
  | .tcall12 => [0xC1]
  | .set1Bit6 dp => [0xC2, dp]
  | .bbsBit6 dp rel => [0xC3, dp, rel]
  | .movDpFromA dp => [0xC4, dp]
  | .movAbsFromA m => [0xC5, m.lo, m.hi]
  | .movIndXFromA => [0xC6]
  | .movDpXIndFromA dp => [0xC7, dp]
  | .cmpXImm imm => [0xC8, imm]
  | .movAbsFromX m => [0xC9, m.lo, m.hi]
  | .mov1MbFromC m bit => [0xCA, m.lo, bitHigh m bit]
  | .movDpFromY dp => [0xCB, dp]
  | .movAbsFromY m => [0xCC, m.lo, m.hi]
  | .movXImm imm => [0xCD, imm]
  | .popX => [0xCE]
  | .mul => [0xCF]
  | .bne rel => [0xD0, rel]
  | .tcall13 => [0xD1]
  | .clr1Bit6 dp => [0xD2, dp]
  | .bbcBit6 dp rel => [0xD3, dp, rel]
  | .movDpXFromA dp => [0xD4, dp]
  | .movAbsXFromA m => [0xD5, m.lo, m.hi]
  | .movAbsYFromA m => [0xD6, m.lo, m.hi]
  | .movDpIndYFromA dp => [0xD7, dp]
  | .movDpFromX dp => [0xD8, dp]
  | .movDpYFromX dp => [0xD9, dp]
  | .movwDpYa dp => [0xDA, dp]
  | .movDpXFromY dp => [0xDB, dp]
  | .decY => [0xDC]
  | .movAY => [0xDD]
  | .cbneDpX dp rel => [0xDE, dp, rel]
  | .daa => [0xDF]
  | .clrv => [0xE0]
  | .tcall14 => [0xE1]
  | .set1Bit7 dp => [0xE2, dp]
  | .bbsBit7 dp rel => [0xE3, dp, rel]
  | .movADp dp => [0xE4, dp]
  | .movAAbs m => [0xE5, m.lo, m.hi]
  | .movAIndX => [0xE6]
  | .movADpXInd dp => [0xE7, dp]
  | .movAImm imm => [0xE8, imm]
  | .movXAbs m => [0xE9, m.lo, m.hi]
  | .not1 m bit => [0xEA, m.lo, bitHigh m bit]
  | .movYDp dp => [0xEB, dp]
  | .movYAbs m => [0xEC, m.lo, m.hi]
  | .notc => [0xED]
  | .popY => [0xEE]
  | .sleep => [0xEF]
  | .beq rel => [0xF0, rel]
  | .tcall15 => [0xF1]
  | .clr1Bit7 dp => [0xF2, dp]
  | .bbcBit7 dp rel => [0xF3, dp, rel]
  | .movADpX dp => [0xF4, dp]
  | .movAAbsX m => [0xF5, m.lo, m.hi]
  | .movAAbsY m => [0xF6, m.lo, m.hi]
  | .movADpIndY dp => [0xF7, dp]
  | .movXDp dp => [0xF8, dp]
  | .movXDpY dp => [0xF9, dp]
  | .movDdSs dd ss => [0xFA, ss, dd]
  | .movYDpX dp => [0xFB, dp]
  | .incY => [0xFC]
  | .movYA => [0xFD]
  | .dbnzY rel => [0xFE, rel]
  | .stop => [0xFF]

/-- The bytes of the number `w`, the first byte in its lowest bits: three bytes, the longest instruction. -/
def tableBytes (nbits w : Nat) : List Byte :=
  let v := w % 2 ^ nbits
  [BitVec.ofNat 8 v, BitVec.ofNat 8 (v / 0x100), BitVec.ofNat 8 (v / 0x10000)]

/-- The instruction the decoder reads from the opcode table's word `w` of `nbits` bits. -/
def decodeTableWord (nbits w : Nat) : Option Instr :=
  match decode (tableBytes nbits w) with
  | .ok (i, _) => some i
  | .error _ => none

end Sys2Proof
end

