-- ==== Sys2Proof/Config.lean ====
section
/-! DEFINITION. Config.lean: the ten parameters of rule R8 that a model fixes before `load` and that never change in a
session. They are plain data and stand in a field of State, so that one model covers every setting (log 1). Their
defaults, and the two that are functions, are in Machine/Params.lean. -/

namespace Sys2Proof

/-- R8, D7: which flags ADC, SBC, ADDW, SUBW and DIV write. -/
inductive FlagProfile where
  | spcjs
  | hardware
  deriving DecidableEq, Repr

/-- R8, D5: whether B, H and I are stored bits or constant 0 (R38). -/
inductive HibPolicy where
  | preserve
  | zero
  deriving DecidableEq, Repr

/-- R8: the parameters. A parameter that is a function is held as the arguments at which it differs from its default, with
its values there (log 8). -/
structure Params where
  /-- The opcodes OUTSIDE the parameter IMPLEMENTED (D3). -/
  excluded : List Byte
  /-- FLAG_PROFILE (D7). -/
  flagProfile : FlagProfile
  /-- NZ_FROM_RAW_SUM (D49). -/
  nzFromRawSum : Bool
  /-- WORD_CARRY_IN (D50). -/
  wordCarryIn : Bool
  /-- DIV_OVERFLOW (D9): YA and X, the quotient and the remainder. -/
  divOverflowAt : List ((Word × Byte) × (Nat × Nat))
  /-- PSW_HIB_POLICY (D5). -/
  hibPolicy : HibPolicy
  /-- FETCH_SIDE_EFFECTS (D14). -/
  fetchSideEffects : Bool
  /-- RATE_FIRES (D25): the rate and the counter, and whether the rate fires. -/
  rateFiresAt : List ((Nat × Nat) × Bool)
  /-- GAUSS (D26). -/
  gauss : Vector Int 512
  /-- SNAPSHOT_SIGNATURE (D36). -/
  signature : Vector Byte 37
  deriving DecidableEq, Repr

/-- R7, R771: one sample is 32 CPU cycles. -/
def samplePeriod : Nat := 32

/-- R730: the rate counter's top value. -/
def rateCounterTop : Nat := 30719

end Sys2Proof
end

