-- ==== Sys2Proof/Machine/Params.lean ====
section
/-! DEFINITION. Machine/Params.lean: the defaults of the parameters of R8, and the parameters as the machine uses them: the
set IMPLEMENTED and the functions DIV_OVERFLOW, RATE_FIRES and GAUSS of a setting. -/

namespace Sys2Proof

namespace Machine

/-- R392: the default of DIV_OVERFLOW, the quotient and remainder of DIV when Y >= X. -/
def standardDivOverflow (ya x : Nat) : Nat × Nat :=
  if ya / 256 ≥ 2 * x then
    (255 - (ya - x * 512) / (256 - x), x + (ya - x * 512) % (256 - x))
  else (ya / x, ya % x)

/-- R802: the default of SNAPSHOT_SIGNATURE: the 33 ASCII bytes of "SNES-SPC700 Sound File Data v0.30",
then 1A 1A 1A 1E. -/
def standardSignatureBytes : List Byte :=
  ([0x53, 0x4E, 0x45, 0x53, 0x2D, 0x53, 0x50, 0x43, 0x37, 0x30, 0x30, 0x20] : List Byte) ++   -- SNES-SPC700
  [0x53, 0x6F, 0x75, 0x6E, 0x64, 0x20, 0x46, 0x69, 0x6C, 0x65, 0x20] ++           -- Sound File
  [0x44, 0x61, 0x74, 0x61, 0x20, 0x76, 0x30, 0x2E, 0x33, 0x30] ++                 -- Data v0.30
  [0x1A, 0x1A, 0x1A, 0x1E]

end Machine

/-- R158, R159: the 17 opcodes marked in the opcode map, outside the default IMPLEMENTED set. -/
def unnamedOpcodes : List Byte :=
  [0x0A, 0x2A, 0x4A, 0x6A, 0x8A, 0xAA, 0xCA, 0xEA] ++   -- OR1, AND1, EOR1, MOV1, NOT1
  [0x0F, 0x7F, 0xA0, 0xC0, 0xE0, 0xBE, 0xDF, 0xEF, 0xFF]  -- BRK, RETI, EI, DI, CLRV, DAS, DAA, SLEEP, STOP

/-- R8: every parameter at its default. -/
def Params.standard : Params where
  excluded := unnamedOpcodes
  flagProfile := .spcjs
  nzFromRawSum := false
  wordCarryIn := true
  divOverflowAt := []
  hibPolicy := .preserve
  fetchSideEffects := true
  rateFiresAt := []
  gauss := Machine.standardGauss
  signature := ⟨Machine.standardSignatureBytes.toArray, rfl⟩

/-- R8, R176: the opcode is in the set IMPLEMENTED. -/
def Params.implements (p : Params) (op : Byte) : Bool := !p.excluded.contains op

/-- R392: DIV_OVERFLOW(ya, x) of a setting. -/
def Params.divOverflow (p : Params) (ya : Word) (x : Byte) : Nat × Nat :=
  (p.divOverflowAt.lookup (ya, x)).getD (Machine.standardDivOverflow ya.toNat x.toNat)

/-- R730: RATE_FIRES(rate, c) of a setting. -/
def Params.rateFires (p : Params) (rate c : Nat) : Bool :=
  (p.rateFiresAt.lookup (rate, c)).getD (Machine.standardRateFires rate c)

/-- R741: GAUSS[i] of a setting; R713 uses the indexes 0..511 only (log 14). -/
def Params.weight (p : Params) (i : Nat) : Int := p.gauss[i]?.getD 0

end Sys2Proof
end

