-- ==== Sys2Proof/Machine/State.lean ====
section
/-! DEFINITION. Machine/State.lean: every piece of state the spec gives the machine (10_state.md), as plain data, the
faults of 60_exceptions.md, and the state after reset. -/

namespace Sys2Proof.Machine

/-- R34, R35, R38: the eight flag bits of the PSW, named as in R34. -/
structure Flags where
  n : Bool
  v : Bool
  p : Bool
  b : Bool
  h : Bool
  i : Bool
  z : Bool
  c : Bool
  deriving DecidableEq, Repr

/-- R51: one timer; its rate is a constant of its number (R630). -/
structure Timer where
  enabled : Bool
  /-- 0 means 256 (R630). -/
  divisor : Byte
  /-- 0..15 -/
  counter : Nat
  /-- the CPU time of the last synchronisation -/
  last : Nat
  deriving DecidableEq, Repr

/-- R53: the envelope state of a voice. -/
inductive EnvMode where
  | release
  | attack
  | decay
  | sustain
  deriving DecidableEq, Repr

/-- R53: one voice of the DSP. -/
structure Voice where
  /-- key-on delay countdown, 0..5 samples -/
  konDelay : Nat
  /-- 12 decoded samples, mirrored into 24 slots -/
  ring : Vector Int 24
  /-- write cursor, 0..11 -/
  wpos : Nat
  brrAddr : Word
  /-- 0, 2, 4 or 6 between samples -/
  brrOff : Nat
  mode : EnvMode
  /-- committed amplitude, 0..0x7FF -/
  env : Nat
  /-- pending amplitude, 0..0x7FF -/
  pend : Nat
  /-- interpolation accumulator, 0..0x7FFF -/
  interp : Nat
  deriving DecidableEq, Repr

/-- R602: the DSP features the core does not implement. -/
inductive Feature where
  | gain
  | noise
  | echo
  | pitchmod
  deriving DecidableEq, Repr

/-- R603, R802: why a snapshot is rejected. -/
inductive RejectReason where
  | tooShort
  | badSignature
  deriving DecidableEq, Repr

/-- R54, R601, R602: what a raised fault records in the frozen state. -/
inductive FaultRecord where
  | unknownOpcode (opcode : Byte) (address : Word)
  | unsupportedFeature (feature : Feature) (voice : Fin 8)
  deriving DecidableEq, Repr

/-- R770: which part of a `produce_frame` call comes next. The MODEL's own field (log 4).
`idle`: no call is open. `cpu`: `run` is in progress (part 1). `dsp`: `run` has returned, parts 2-5 come next. -/
inductive Phase where
  | idle
  | cpu
  | dsp
  deriving DecidableEq, Repr

/-- R30-R56: the whole state of the machine. -/
structure State where
  -- the CPU registers (R30-R33)
  a : Byte
  x : Byte
  y : Byte
  sp : Byte
  pc : Word
  -- the program status word (R34-R38)
  flags : Flags
  -- RAM (R40): the bytes that are not 0, addresses rising (`Memory.wf`)
  ram : List Host.Cell
  -- the DSP register bank (R42)
  dspRegs : Vector Byte 128
  -- the three timers (R51)
  timers : Vector Timer 3
  -- bookkeeping of the CPU (R54)
  time : Nat
  target : Nat
  halted : Bool
  fault : Option FaultRecord
  -- the DSP's global state (R52); `everyOther` true is 1
  everyOther : Bool
  rateCounter : Nat
  konLatch : Byte
  kofLatch : Byte
  -- the eight voices (R53)
  voices : Vector Voice 8
  -- the model's own: where in a `produce_frame` call the machine stands (log 4)
  phase : Phase
  -- the model's own: the pair (L, R) the last completed call returned (R770, log 5)
  frame : Option (BitVec 16 × BitVec 16)
  -- the parameters of R8, fixed for the session (log 1)
  params : Params
  deriving DecidableEq, Repr

/-- R14, R604: why the machine stops. Each constructor but the last carries the FROZEN state: the machine as it was at
the moment of the fault, with its `fault` field set (log 6). -/
inductive Fault where
  /-- R176, R601: raised by the instruction loop for an opcode outside IMPLEMENTED. The spec names this stop: safe. -/
  | unknownOpcode (opcode : Byte) (address : Word) (frozen : State)
  /-- R602, R712, R721: raised by a voice step that meets GAIN, noise, echo or pitch modulation. The spec names this
  stop: safe. -/
  | unsupportedFeature (feature : Feature) (voice : Fin 8) (frozen : State)
  /-- R603, R802: raised by `load` alone; no machine state exists after it. The spec names this stop: safe. -/
  | snapshotRejected (reason : RejectReason)
  deriving DecidableEq, Repr

/-- Refusals: an instruction without a meaning. Every constructor of Instr has one, so no step refuses. -/
inductive Refusal where
  /-- Raised by no arm of `exec`: kept for an instruction whose meaning is not written. Safe. -/
  | notModelled (mnemonic : String)
  deriving DecidableEq, Repr

/-- The result type of a step and of every instruction's meaning. -/
abbrev Result := Host.Outcome State Fault Refusal

/-- R808: a voice after load. -/
def Voice.reset : Voice where
  konDelay := 0
  ring := Vector.replicate 24 0
  wpos := 0
  brrAddr := 0
  brrOff := 0
  mode := .release
  env := 0
  pend := 0
  interp := 0

/-- R807 for a RAM image whose window bytes are 0. -/
def Timer.reset : Timer where
  enabled := false
  divisor := 0
  counter := 0
  last := 0

/-- `load` is the only reset (R800). This is the state R56 gives for the snapshot named in log 2 (DESIGN CHOICE): every
byte of it 0 but PC = 0x0200 and SP = 0xEF, the start state of the spec's own programs (95_test_vectors.md, Part 3). -/
def State.reset : State where
  a := 0
  x := 0
  y := 0
  sp := 0xEF
  pc := 0x0200
  flags := ⟨false, false, false, false, false, false, false, false⟩
  ram := []
  dspRegs := Vector.replicate 128 0
  timers := Vector.replicate 3 Timer.reset
  time := 0
  target := 0
  halted := false
  fault := none
  everyOther := true
  rateCounter := 0
  konLatch := 0
  kofLatch := 0
  voices := Vector.replicate 8 Voice.reset
  phase := .idle
  frame := none
  params := Params.standard

end Sys2Proof.Machine
end

