-- ==== Sys2Proof/Machine/Memory.lean ====
section
/-! DEFINITION. Machine/Memory.lean: the 65536 bytes of RAM (R40, R100) as a list of (address, byte) pairs in one
canonical form. -/

namespace Sys2Proof.Machine

/-- What an address that is not listed reads as: 0 (log 3; the spec's programs: "every byte not listed is 0"). -/
def Memory.unlisted : Byte := 0

/-- The canonical form: addresses strictly rising and inside the address space, no entry equal to an unlisted byte. -/
abbrev Memory.wf (m : List Host.Cell) : Prop :=
  m.Pairwise (fun c d => c.1 < d.1) ∧ ∀ c ∈ m, c.2 ≠ Memory.unlisted ∧ c.1 < 0x10000

/-- The byte at address `k`. -/
def Memory.read : List Host.Cell → Nat → Byte
  | [], _ => Memory.unlisted
  | c :: m, k => if c.1 = k then c.2 else Memory.read m k

/-- The list without an entry for `k`. -/
def Memory.erase (m : List Host.Cell) (k : Nat) : List Host.Cell :=
  m.filter fun c => c.1 != k

/-- An entry put before the first greater address. -/
def Memory.insert (k : Nat) (v : Byte) : List Host.Cell → List Host.Cell
  | [] => [(k, v)]
  | c :: m => if k < c.1 then (k, v) :: c :: m else c :: Memory.insert k v m

/-- The list after byte `v` is stored at `k`; storing the unlisted byte removes the entry. -/
def Memory.write (m : List Host.Cell) (k : Nat) (v : Byte) : List Host.Cell :=
  if v = Memory.unlisted then Memory.erase m k else Memory.insert k v (Memory.erase m k)

/-- The memory that holds `bytes` at the addresses from `k` on, and nothing else (R805). -/
def Memory.ofBytes : Nat → List Byte → List Host.Cell
  | _, [] => []
  | k, v :: vs =>
    if v = Memory.unlisted then Memory.ofBytes (k + 1) vs else (k, v) :: Memory.ofBytes (k + 1) vs

/-- The stored byte `ram[a]`, without any side effect (R12, R129). -/
def State.peek (s : State) (a : Word) : Byte := Memory.read s.ram a.toNat

/-- `ram[a] <- v`, without any side effect. -/
def State.poke (s : State) (a : Word) (v : Byte) : State :=
  { s with ram := Memory.write s.ram a.toNat v }

end Sys2Proof.Machine
end

