-- ==== Sys2Proof/Machine/Timers.lean ====
section
/-! DEFINITION. Machine/Timers.lean: the three timers (61_timers.md). Every operation takes the CPU time of the access
(R634). -/

namespace Sys2Proof.Machine

/-- R630: CPU cycles per divisor stage. -/
def timerRate (i : Fin 3) : Nat := if i = 2 then 16 else 128

/-- R630: the tick period `q = rate * d`, a divisor of 0 meaning 256. -/
def Timer.period (rate : Nat) (tm : Timer) : Nat :=
  rate * (if tm.divisor = 0 then 256 else tm.divisor.toNat)

/-- R632: `sync(t)`. The ticks are an integer: after a branch refund `t` can be below `last` (log 10). -/
def Timer.sync (rate : Nat) (t : Nat) (tm : Timer) : Timer :=
  let q := tm.period rate
  let ticks : Int := ((t / q : Nat) : Int) - ((tm.last / q : Nat) : Int)
  { tm with
    counter := if tm.enabled then (((tm.counter : Int) + ticks) % 16).toNat else tm.counter
    last := t }

/-- R635: `setEnabled(t, e)`. -/
def Timer.setEnabled (rate : Nat) (t : Nat) (e : Bool) (tm : Timer) : Timer :=
  if e = tm.enabled then tm
  else
    let tm1 := tm.sync rate t
    { tm1 with enabled := e, counter := if e then 0 else tm1.counter }

/-- R636: `setDivisor(t, v)`. -/
def Timer.setDivisor (rate : Nat) (t : Nat) (v : Byte) (tm : Timer) : Timer :=
  if v = tm.divisor then tm else { tm.sync rate t with divisor := v }

/-- R637: `readCounter(t)`, the value and the timer after it. -/
def Timer.readCounter (rate : Nat) (t : Nat) (tm : Timer) : Byte × Timer :=
  let tm1 := tm.sync rate t
  (BitVec.ofNat 8 tm1.counter, { tm1 with counter := 0 })

/-- Timer i of the machine, replaced by what `f` makes of it at the current time. -/
def State.onTimer (s : State) (i : Fin 3) (f : Nat → Nat → Timer → Timer) : State :=
  { s with timers := s.timers.set i (f (timerRate i) s.time s.timers[i]) }

/-- R637 for timer i of the machine. -/
def State.readCounter (s : State) (i : Fin 3) : Byte × State :=
  ((s.timers[i].readCounter (timerRate i) s.time).1,
    s.onTimer i fun rate t tm => (tm.readCounter rate t).2)

end Sys2Proof.Machine
end

