-- ==== Sys2Proof/Machine/Ops.lean ====
section
/-! DEFINITION. Machine/Ops.lean: the named operations over memory and registers: MemRead and MemWrite with the side
effects of the window 0x00F0-0x00FF (R101, R102), the direct page, the stack, the register file, and the one entry
through a vector that saves a status (BRK) with the return from it (R607, R608). -/

namespace Sys2Proof.Machine

/-! ### The DSP register bank -/

/-- `dsp_regs[i & 0x7F]` (R46). -/
def State.dspReg (s : State) (i : Byte) : Byte :=
  s.dspRegs[i.toNat % 128]'(Nat.mod_lt _ (by decide))

/-- `dsp_regs[i] <- v` for an index below 0x80 (the caller's check, R46). -/
def State.setDspReg (s : State) (i : Byte) (v : Byte) : State :=
  { s with dspRegs := s.dspRegs.set (i.toNat % 128) v (Nat.mod_lt _ (by decide)) }

/-! ### The memory-mapped window (R41-R50) -/

/-- CONTROL, 0x00F1 (R44). -/
def controlAddr : Word := 0x00F1
/-- The DSP address port, 0x00F2 (R45). -/
def dspAddrPort : Word := 0x00F2
/-- The DSP data port, 0x00F3 (R46). -/
def dspDataPort : Word := 0x00F3

/-- R50: the timer whose counter register is at `a`, 0x00FD-0x00FF. -/
def counterOf (a : Word) : Option (Fin 3) :=
  if a = 0x00FD then some 0 else if a = 0x00FE then some 1 else if a = 0x00FF then some 2 else none

/-- R49: the timer whose divisor register is at `a`, 0x00FA-0x00FC. -/
def divisorOf (a : Word) : Option (Fin 3) :=
  if a = 0x00FA then some 0 else if a = 0x00FB then some 1 else if a = 0x00FC then some 2 else none

/-- R101: `MemRead(a, 1)`, the byte and the machine after the read. -/
def memRead (a : Word) (s : State) : Byte × State :=
  match counterOf a with
  | some i =>
    let (v, s1) := s.readCounter i
    (v, s1.poke a v)
  | none =>
    if a = dspDataPort then
      let v := s.dspReg (s.peek dspAddrPort)
      (v, s.poke a v)
    else (s.peek a, s)

/-- R102: what a write of `v` to `a` does beside storing the byte. -/
def writeEffect (a : Word) (v : Byte) (s : State) : State :=
  if a = controlAddr then
    let enable (i : Fin 3) (s : State) : State :=
      s.onTimer i fun rate t tm => tm.setEnabled rate t (v.getLsbD i)
    enable 2 (enable 1 (enable 0 s))
  else
    match divisorOf a with
    | some i => s.onTimer i fun rate t tm => tm.setDivisor rate t v
    | none =>
      if a = dspDataPort ∧ s.peek dspAddrPort < 0x80 then s.setDspReg (s.peek dspAddrPort) v else s

/-- R102: `MemWrite(a, 1, v)`. -/
def memWrite (a : Word) (v : Byte) (s : State) : State := writeEffect a v (s.poke a v)

/-! ### Direct page, pointers, stack -/

/-- R103: the direct-page address of offset `o`. -/
def dpAddr (o : Byte) (s : State) : Word := Word.mk (if s.flags.p then 1 else 0) o

/-- R104: the direct-page word at offset `o`, the low byte first. -/
def readWordDp (o : Byte) (s : State) : Word × State :=
  let (lo, s1) := memRead (dpAddr o s) s
  let (hi, s2) := memRead (dpAddr (o + 1) s1) s1
  (Word.mk hi lo, s2)

/-- R105: the word at `p`, the low byte first, with a full 16-bit carry. -/
def readWord (p : Word) (s : State) : Word × State :=
  let (lo, s1) := memRead p s
  let (hi, s2) := memRead (p + 1) s1
  (Word.mk hi lo, s2)

/-- R106: the address of the stack byte SP names. -/
def stackAddr (s : State) : Word := Word.mk 1 s.sp

/-- R106: `push(v)`, the write before the decrement. -/
def push (v : Byte) (s : State) : State :=
  let s1 := memWrite (stackAddr s) v s
  { s1 with sp := s1.sp - 1 }

/-- R107: `pop()`. -/
def pop (s : State) : Byte × State :=
  let s1 := { s with sp := s.sp + 1 }
  memRead (stackAddr s1) s1

/-- R411: `push_pc()`, the high byte first. -/
def pushPc (s : State) : State := push s.pc.lo (push s.pc.hi s)

/-- RET and RETI: PC popped low byte first (R107, R461). -/
def popPc (s : State) : State :=
  let (lo, s1) := pop s
  let (hi, s2) := pop s1
  { s2 with pc := Word.mk hi lo }

/-- PC loaded from the word at `p` (R105, R125). -/
def jumpThrough (p : Word) (s : State) : State :=
  let (w, s1) := readWord p s
  { s1 with pc := w }

/-- R125: the address of the TCALL n vector, `0xFFDE - 2n`. -/
def tcallVector (n : Fin 16) : Word := 0xFFDE - 2 * BitVec.ofNat 16 n

/-- TCALL n (R445-R460): PC pushed, then the jump through the vector. -/
def tableCall (n : Fin 16) (s : State) : State := jumpThrough (tcallVector n) (pushPc s)

/-! ### Registers -/

/-- R30: the three general registers. -/
inductive Reg8 where
  | a
  | x
  | y
  deriving DecidableEq, Repr

def State.reg (s : State) : Reg8 → Byte
  | .a => s.a
  | .x => s.x
  | .y => s.y

def State.setReg (s : State) (r : Reg8) (v : Byte) : State :=
  match r with
  | .a => { s with a := v }
  | .x => { s with x := v }
  | .y => { s with y := v }

/-- R31: the view YA. -/
def State.ya (s : State) : Word := Word.mk s.y s.a

/-- R31: writing YA. -/
def State.setYa (s : State) (w : Word) : State := { s with a := w.lo, y := w.hi }

/-! ### The packed PSW -/

/-- R38: a bit among B, H and I as it reads under the policy: constant 0 under `zero`. -/
def State.hib (s : State) (bit : Bool) : Bool :=
  match s.params.hibPolicy with
  | .preserve => bit
  | .zero => false

/-- R36: `pack_psw()`, in the layout of R34. -/
def State.packPsw (s : State) : Byte :=
  BitVec.ofBool s.flags.n ++ BitVec.ofBool s.flags.v ++ BitVec.ofBool s.flags.p ++
    BitVec.ofBool (s.hib s.flags.b) ++ BitVec.ofBool (s.hib s.flags.h) ++ BitVec.ofBool (s.hib s.flags.i) ++
    BitVec.ofBool s.flags.z ++ BitVec.ofBool s.flags.c

/-- R37: `unpack_psw(v)`; a byte with both N and Z set loads Z = 1 and N = 0 (D6). -/
def State.unpackPsw (s : State) (v : Byte) : State :=
  { s with
    flags :=
      { n := v.getLsbD 7 && !v.getLsbD 1
        v := v.getLsbD 6
        p := v.getLsbD 5
        b := s.hib (v.getLsbD 4)
        h := s.hib (v.getLsbD 3)
        i := s.hib (v.getLsbD 2)
        z := v.getLsbD 1
        c := v.getLsbD 0 } }

/-! ### The entry that saves a status, and the return from it -/

/-- R607, R514: BRK's entry, the one transfer through a vector that saves the status: PC and then the packed PSW are
pushed, B is set, I is cleared, and PC is loaded from the TCALL 0 vector. Under PSW_HIB_POLICY = zero B and I stay 0
(R38, log 9). -/
def enterBreak (s : State) : State :=
  let s1 := pushPc s
  let s2 := push s1.packPsw s1
  jumpThrough (tcallVector 0) { s2 with flags := { s2.flags with b := s2.hib true, i := false } }

/-- R608, R515: RETI, the inverse of BRK's stack frame: the PSW is popped, then PC. -/
def returnFromBreak (s : State) : State :=
  let (v, s1) := pop s
  popPc (s1.unpackPsw v)

end Sys2Proof.Machine
end

