-- ==== Sys2Proof/Machine/Flags.lean ====
section
/-! DEFINITION. Machine/Flags.lean: every flag computation of the spec: setNZ8 and setNZ16 (R35), the six 8-bit ALU
functions (R260-R265), the shifts, increments and decrements (R350-R355), the 16-bit add, subtract and compare (R390,
R391), the division corner (R392) and the decimal adjusts (R512, R513). -/

namespace Sys2Proof.Machine

/-- R35: `setNZ8(v)`. -/
def setNZ8 (v : Byte) (s : State) : State :=
  { s with flags := { s.flags with n := v.msb, z := decide (v = 0) } }

/-- R35: `setNZ16(w)`. -/
def setNZ16 (w : Word) (s : State) : State :=
  { s with flags := { s.flags with n := w.msb, z := decide (w = 0) } }

def setC (c : Bool) (s : State) : State := { s with flags := { s.flags with c := c } }
def setV (v : Bool) (s : State) : State := { s with flags := { s.flags with v := v } }
def setP (p : Bool) (s : State) : State := { s with flags := { s.flags with p := p } }

/-- R38: a write of H; under PSW_HIB_POLICY = zero the bit stays 0 (log 9). -/
def setH (h : Bool) (s : State) : State := { s with flags := { s.flags with h := s.hib h } }
/-- R38: a write of I; under PSW_HIB_POLICY = zero the bit stays 0 (log 9). -/
def setI (i : Bool) (s : State) : State := { s with flags := { s.flags with i := s.hib i } }

/-! ### The 8-bit ALU functions -/

/-- R263, R264: the sum `d + s + C` with its flags. `t` is the unmasked sum. N and Z come from the low 8 bits, or from
`t` under NZ_FROM_RAW_SUM (D49); V and H are written under FLAG_PROFILE = hardware only (D7). -/
def aluAdd (d src : Byte) (s : State) : Byte × State :=
  let t := d.toNat + src.toNat + bitNat s.flags.c
  let r := BitVec.ofNat 8 t
  let s1 := setC (decide (t > 0xFF)) s
  let s2 :=
    if s.params.nzFromRawSum then
      { s1 with flags := { s1.flags with n := r.msb, z := decide (t = 0) } }
    else setNZ8 r s1
  let s3 :=
    match s.params.flagProfile with
    | .spcjs => s2
    | .hardware =>
      setH (decide ((d ^^^ src ^^^ r) &&& 0x10 ≠ 0))
        (setV (decide (~~~(d ^^^ src) &&& (d ^^^ r) &&& 0x80 ≠ 0)) s2)
  (r, s3)

/-- The five ALU functions that return a result (R260-R264). -/
inductive AluOp where
  | or
  | and
  | eor
  | adc
  | sbc
  deriving DecidableEq, Repr

/-- R260-R264: the result of `alu_<op>(d, s)` and the machine with its flags. -/
def alu (op : AluOp) (d src : Byte) (s : State) : Byte × State :=
  match op with
  | .or => (d ||| src, setNZ8 (d ||| src) s)
  | .and => (d &&& src, setNZ8 (d &&& src) s)
  | .eor => (d ^^^ src, setNZ8 (d ^^^ src) s)
  | .adc => aluAdd d src s
  | .sbc => aluAdd d (~~~src) s

/-- R265: `alu_CMP(d, s)`: C is no borrow, N and Z are those of the 8-bit difference, V and H are not written. -/
def aluCmp (d src : Byte) (s : State) : State :=
  let t := d.toNat + (~~~src).toNat + 1
  setNZ8 (BitVec.ofNat 8 t) (setC (decide (t > 0xFF)) s)

/-! ### Shifts, rotates, increment, decrement -/

/-- The six one-operand functions of 42_inc_dec_shift.md (R350-R355). -/
inductive RmwOp where
  | asl
  | rol
  | lsr
  | ror
  | inc
  | dec
  deriving DecidableEq, Repr

/-- R350-R355: the result of `op_<op>(v)` and the machine with its flags. -/
def rmwFn (op : RmwOp) (v : Byte) (s : State) : Byte × State :=
  match op with
  | .asl => let r := v <<< 1; (r, setNZ8 r (setC v.msb s))
  | .rol => let r := v <<< 1 ||| (BitVec.ofBool s.flags.c).setWidth 8; (r, setNZ8 r (setC v.msb s))
  | .lsr => let r := v >>> 1; (r, setNZ8 r (setC (v.getLsbD 0) s))
  | .ror => let r := v >>> 1 ||| (BitVec.ofBool s.flags.c).setWidth 8 <<< 7; (r, setNZ8 r (setC (v.getLsbD 0) s))
  | .inc => (v + 1, setNZ8 (v + 1) s)
  | .dec => (v - 1, setNZ8 (v - 1) s)

/-! ### The 16-bit functions -/

/-- R390, R397, R398: `ya + w2 + cin` with its flags; `w2` is the word for ADDW and its complement for SUBW. -/
def wordAdd (ya w2 : Word) (cin : Nat) (s : State) : Word × State :=
  let t := ya.toNat + w2.toNat + cin
  let r := BitVec.ofNat 16 t
  let s1 := setC (decide (t > 0xFFFF)) s
  let s2 :=
    if s.params.nzFromRawSum then
      { s1 with flags := { s1.flags with n := r.msb, z := decide (t = 0) } }
    else setNZ16 r s1
  let s3 :=
    match s.params.flagProfile with
    | .spcjs => s2
    | .hardware =>
      setH (decide ((ya ^^^ w2 ^^^ r) &&& 0x1000 ≠ 0))
        (setV (decide (~~~(ya ^^^ w2) &&& (ya ^^^ r) &&& 0x8000 ≠ 0)) s2)
  (r, s3)

/-- R391: `cin16()`, the carry into ADDW. -/
def cin16 (s : State) : Nat := if s.params.wordCarryIn then bitNat s.flags.c else 0

/-- R391: `cin16s()`, the carry into SUBW. -/
def cin16s (s : State) : Nat := if s.params.wordCarryIn then bitNat s.flags.c else 1

/-- R399: CMPW's flags: no carry-in. -/
def wordCmp (ya w : Word) (s : State) : State :=
  let t := ya.toNat + (~~~w).toNat + 1
  setNZ16 (BitVec.ofNat 16 t) (setC (decide (t > 0xFFFF)) s)

/-- R401: DIV's quotient and remainder. -/
def divide (p : Params) (ya : Word) (x : Byte) : Nat × Nat :=
  if ya.hi < x then (ya.toNat / x.toNat, ya.toNat % x.toNat) else p.divOverflow ya x

/-! ### Decimal adjust -/

/-- R512: DAA's two adjustments of A and C; the second test reads A after the first. -/
def decimalAdd (s : State) : State :=
  let s1 := if s.flags.c ∨ s.a > 0x99 then setC true { s with a := s.a + 0x60 } else s
  let s2 := if s1.hib s1.flags.h ∨ s1.a &&& 0x0F > 0x09 then { s1 with a := s1.a + 0x06 } else s1
  setNZ8 s2.a s2

/-- R513: DAS's two adjustments of A and C. -/
def decimalSub (s : State) : State :=
  let s1 := if ¬ s.flags.c ∨ s.a > 0x99 then setC false { s with a := s.a - 0x60 } else s
  let s2 := if ¬ s1.hib s1.flags.h ∨ s1.a &&& 0x0F > 0x09 then { s1 with a := s1.a - 0x06 } else s1
  setNZ8 s2.a s2

end Sys2Proof.Machine
end

