-- ==== Sys2Proof/Machine/Operands.lean ====
section
/-! DEFINITION. Machine/Operands.lean: every operand form of the spec (R110-R124) and the shapes of instruction that
are built from them: load, store, ALU on a register or a memory byte, read-modify-write, branch. The order of the
accesses in each is the order its rules list (R126). -/

namespace Sys2Proof.Machine

/-- The addressing modes that name a memory byte (R111-R121). -/
inductive Mode where
  /-- `dp` (R111) -/
  | dp (o : Byte)
  /-- `dp+X` (R112) -/
  | dpX (o : Byte)
  /-- `dp+Y` (R113) -/
  | dpY (o : Byte)
  /-- `(X)` (R114) -/
  | indX
  /-- `(Y)` (R115) -/
  | indY
  /-- `!abs` (R117) -/
  | abs (m : Word)
  /-- `!abs+X` (R118) -/
  | absX (m : Word)
  /-- `!abs+Y` (R119) -/
  | absY (m : Word)
  /-- `[dp+X]` (R120) -/
  | dpXInd (o : Byte)
  /-- `[dp]+Y` (R121) -/
  | dpIndY (o : Byte)
  deriving DecidableEq, Repr

/-- A source operand: an immediate (R110) or a memory byte. -/
inductive Source where
  | imm (v : Byte)
  | mem (m : Mode)
  deriving DecidableEq, Repr

/-- R111-R121: the effective address, and the machine after the pointer reads of R120 and R121. -/
def Mode.ea (m : Mode) (s : State) : Word × State :=
  match m with
  | .dp o => (dpAddr o s, s)
  | .dpX o => (dpAddr (o + s.x) s, s)
  | .dpY o => (dpAddr (o + s.y) s, s)
  | .indX => (dpAddr s.x s, s)
  | .indY => (dpAddr s.y s, s)
  | .abs a => (a, s)
  | .absX a => (a + s.x.setWidth 16, s)
  | .absY a => (a + s.y.setWidth 16, s)
  | .dpXInd o => readWordDp (o + s.x) s
  | .dpIndY o =>
    let (w, s1) := readWordDp o s
    (w + s1.y.setWidth 16, s1)

/-- The value of a source operand, read once. -/
def Source.read (src : Source) (s : State) : Byte × State :=
  match src with
  | .imm v => (v, s)
  | .mem m =>
    let (ea, s1) := m.ea s
    memRead ea s1

/-- R200-R217: `r <- s; setNZ8(s)`. -/
def load (r : Reg8) (src : Source) (s : State) : State :=
  let (v, s1) := src.read s
  setNZ8 v (s1.setReg r v)

/-- R218-R232: the register is written to memory; no read of the destination (R128), no flag. -/
def store (m : Mode) (r : Reg8) (s : State) : State :=
  let (ea, s1) := m.ea s
  memWrite ea (s1.reg r) s1

/-- R233-R237: a register is loaded with `v`; N and Z from `v`. -/
def moveTo (r : Reg8) (v : Byte) (s : State) : State := setNZ8 v (s.setReg r v)

/-- The ALU forms on A: `A <- alu_<op>(A, s)`. -/
def aluA (op : AluOp) (src : Source) (s : State) : State :=
  let (v, s1) := src.read s
  let (r, s2) := alu op s1.a v s1
  { s2 with a := r }

/-- The ALU forms on a memory byte: the source is read first, then the destination, which is written once. -/
def aluMem (op : AluOp) (dst : Mode) (src : Source) (s : State) : State :=
  let (v, s1) := src.read s
  let (ea, s2) := dst.ea s1
  let (d, s3) := memRead ea s2
  let (r, s4) := alu op d v s3
  memWrite ea r s4

/-- CMP on a register (R302-R310, R338-R343). -/
def cmpReg (r : Reg8) (src : Source) (s : State) : State :=
  let (v, s1) := src.read s
  aluCmp (s1.reg r) v s1

/-- CMP on a memory byte (R311-R313): both operands read, the source first, nothing stored. -/
def cmpMem (dst : Mode) (src : Source) (s : State) : State :=
  let (v, s1) := src.read s
  let (d, s2) := (Source.mem dst).read s1
  aluCmp d v s2

/-- The memory forms of 42_inc_dec_shift.md: one read, one write. -/
def rmwMem (op : RmwOp) (m : Mode) (s : State) : State :=
  let (ea, s1) := m.ea s
  let (v, s2) := memRead ea s1
  let (r, s3) := rmwFn op v s2
  memWrite ea r s3

/-- The register forms of 42_inc_dec_shift.md. -/
def rmwReg (op : RmwOp) (r : Reg8) (s : State) : State :=
  let (v, s1) := rmwFn op (s.reg r) s
  s1.setReg r v

/-- A read, a pure function of the byte, and a write of the result, without flags (SET1, CLR1, MOV1, NOT1). -/
def modifyAt (ea : Word) (f : Byte → Byte) (s : State) : State :=
  let (v, s1) := memRead ea s
  memWrite ea (f v) s1

/-- R470-R485: the byte with bit `b` set. -/
def setBit (b : Fin 8) (v : Byte) : Byte := v ||| 1 <<< b.val

/-- R470-R485: the byte with bit `b` cleared. -/
def clearBit (b : Fin 8) (v : Byte) : Byte := v &&& ~~~((1 : Byte) <<< b.val)

/-- R486, R487: N and Z from `A - m`, then the byte `f m` is written. -/
def testAndModify (ea : Word) (f : Byte → Byte) (s : State) : State :=
  let (m, s1) := memRead ea s
  memWrite ea (f m) (setNZ8 (s1.a - m) s1)

/-- R395, R396: the direct-page word read, changed, and written low byte first; N and Z from the result. -/
def modifyWordDp (f : Word → Word) (o : Byte) (s : State) : State :=
  let (w, s1) := readWordDp o s
  let r := f w
  let s2 := memWrite (dpAddr o s1) r.lo s1
  let s3 := memWrite (dpAddr (o + 1) s2) r.hi s2
  setNZ16 r s3

/-- R410: `branch(cond, rel)`: taken, or the refund of 2 cycles. -/
def branch (cond : Bool) (rel : Byte) (s : State) : State :=
  if cond then { s with pc := s.pc + rel.signExtend 16 } else { s with time := s.time - 2 }

/-- R421-R436: the branch on bit `b` of a direct-page byte being `want`. -/
def branchOnBit (want : Bool) (b : Fin 8) (o rel : Byte) (s : State) : State :=
  let (m, s1) := memRead (dpAddr o s) s
  branch (m.getLsbD b == want) rel s1

/-- R437, R438: CBNE: the branch when A differs from the byte; no flag. -/
def compareAndBranch (m : Mode) (rel : Byte) (s : State) : State :=
  let (v, s1) := (Source.mem m).read s
  branch (s1.a != v) rel s1

/-- R501-R506: C becomes `f C (bit b of the byte at ea)`; the address is 13 bits (R500). -/
def carryFromBit (f : Bool → Bool → Bool) (ea : Word) (b : Fin 8) (s : State) : State :=
  let (m, s1) := memRead ea s
  setC (f s1.flags.c (m.getLsbD b)) s1

end Sys2Proof.Machine
end

