-- ==== Sys2Proof/Machine/Alu.lean ====
section
/-! DEFINITION. Machine/Alu.lean: the bodies (R177) of 41_alu.md: 8-bit arithmetic, compare and logic. PC already names the next
instruction and the cost is committed (R173-R175). -/

namespace Sys2Proof.Machine

/-- R266: `OR A, dp`. -/
def execOrADp (dp : Byte) (s : State) : Result :=
  .next (aluA .or (.mem (.dp dp)) s)

/-- R267: `OR A, dp+X`. -/
def execOrADpX (dp : Byte) (s : State) : Result :=
  .next (aluA .or (.mem (.dpX dp)) s)

/-- R268: `OR A, !abs`. -/
def execOrAAbs (m : Word) (s : State) : Result :=
  .next (aluA .or (.mem (.abs m)) s)

/-- R269: `OR A, !abs+X`. -/
def execOrAAbsX (m : Word) (s : State) : Result :=
  .next (aluA .or (.mem (.absX m)) s)

/-- R270: `OR A, (X)`. -/
def execOrAIndX (s : State) : Result :=
  .next (aluA .or (.mem .indX) s)

/-- R271: `OR A, !abs+Y`. -/
def execOrAAbsY (m : Word) (s : State) : Result :=
  .next (aluA .or (.mem (.absY m)) s)

/-- R272: `OR A, [dp+X]`. -/
def execOrADpXInd (dp : Byte) (s : State) : Result :=
  .next (aluA .or (.mem (.dpXInd dp)) s)

/-- R273: `OR A, [dp]+Y`. -/
def execOrADpIndY (dp : Byte) (s : State) : Result :=
  .next (aluA .or (.mem (.dpIndY dp)) s)

/-- R274: `OR A, #imm`. -/
def execOrAImm (imm : Byte) (s : State) : Result :=
  .next (aluA .or (.imm imm) s)

/-- R275: `OR dp, #imm`. -/
def execOrDpImm (dp : Byte) (imm : Byte) (s : State) : Result :=
  .next (aluMem .or (.dp dp) (.imm imm) s)

/-- R276: `OR dd, ss`. -/
def execOrDdSs (dd : Byte) (ss : Byte) (s : State) : Result :=
  .next (aluMem .or (.dp dd) (.mem (.dp ss)) s)

/-- R277: `OR (X), (Y)`. -/
def execOrIndXIndY (s : State) : Result :=
  .next (aluMem .or .indX (.mem .indY) s)

/-- R278: `AND A, dp`. -/
def execAndADp (dp : Byte) (s : State) : Result :=
  .next (aluA .and (.mem (.dp dp)) s)

/-- R279: `AND A, dp+X`. -/
def execAndADpX (dp : Byte) (s : State) : Result :=
  .next (aluA .and (.mem (.dpX dp)) s)

/-- R280: `AND A, !abs`. -/
def execAndAAbs (m : Word) (s : State) : Result :=
  .next (aluA .and (.mem (.abs m)) s)

/-- R281: `AND A, !abs+X`. -/
def execAndAAbsX (m : Word) (s : State) : Result :=
  .next (aluA .and (.mem (.absX m)) s)

/-- R282: `AND A, (X)`. -/
def execAndAIndX (s : State) : Result :=
  .next (aluA .and (.mem .indX) s)

/-- R283: `AND A, !abs+Y`. -/
def execAndAAbsY (m : Word) (s : State) : Result :=
  .next (aluA .and (.mem (.absY m)) s)

/-- R284: `AND A, [dp+X]`. -/
def execAndADpXInd (dp : Byte) (s : State) : Result :=
  .next (aluA .and (.mem (.dpXInd dp)) s)

/-- R285: `AND A, [dp]+Y`. -/
def execAndADpIndY (dp : Byte) (s : State) : Result :=
  .next (aluA .and (.mem (.dpIndY dp)) s)

/-- R286: `AND A, #imm`. -/
def execAndAImm (imm : Byte) (s : State) : Result :=
  .next (aluA .and (.imm imm) s)

/-- R287: `AND dp, #imm`. -/
def execAndDpImm (dp : Byte) (imm : Byte) (s : State) : Result :=
  .next (aluMem .and (.dp dp) (.imm imm) s)

/-- R288: `AND dd, ss`. -/
def execAndDdSs (dd : Byte) (ss : Byte) (s : State) : Result :=
  .next (aluMem .and (.dp dd) (.mem (.dp ss)) s)

/-- R289: `AND (X), (Y)`. -/
def execAndIndXIndY (s : State) : Result :=
  .next (aluMem .and .indX (.mem .indY) s)

/-- R290: `EOR A, dp`. -/
def execEorADp (dp : Byte) (s : State) : Result :=
  .next (aluA .eor (.mem (.dp dp)) s)

/-- R291: `EOR A, dp+X`. -/
def execEorADpX (dp : Byte) (s : State) : Result :=
  .next (aluA .eor (.mem (.dpX dp)) s)

/-- R292: `EOR A, !abs`. -/
def execEorAAbs (m : Word) (s : State) : Result :=
  .next (aluA .eor (.mem (.abs m)) s)

/-- R293: `EOR A, !abs+X`. -/
def execEorAAbsX (m : Word) (s : State) : Result :=
  .next (aluA .eor (.mem (.absX m)) s)

/-- R294: `EOR A, (X)`. -/
def execEorAIndX (s : State) : Result :=
  .next (aluA .eor (.mem .indX) s)

/-- R295: `EOR A, !abs+Y`. -/
def execEorAAbsY (m : Word) (s : State) : Result :=
  .next (aluA .eor (.mem (.absY m)) s)

/-- R296: `EOR A, [dp+X]`. -/
def execEorADpXInd (dp : Byte) (s : State) : Result :=
  .next (aluA .eor (.mem (.dpXInd dp)) s)

/-- R297: `EOR A, [dp]+Y`. -/
def execEorADpIndY (dp : Byte) (s : State) : Result :=
  .next (aluA .eor (.mem (.dpIndY dp)) s)

/-- R298: `EOR A, #imm`. -/
def execEorAImm (imm : Byte) (s : State) : Result :=
  .next (aluA .eor (.imm imm) s)

/-- R299: `EOR dp, #imm`. -/
def execEorDpImm (dp : Byte) (imm : Byte) (s : State) : Result :=
  .next (aluMem .eor (.dp dp) (.imm imm) s)

/-- R300: `EOR dd, ss`. -/
def execEorDdSs (dd : Byte) (ss : Byte) (s : State) : Result :=
  .next (aluMem .eor (.dp dd) (.mem (.dp ss)) s)

/-- R301: `EOR (X), (Y)`. -/
def execEorIndXIndY (s : State) : Result :=
  .next (aluMem .eor .indX (.mem .indY) s)

/-- R302: `CMP A, dp`. -/
def execCmpADp (dp : Byte) (s : State) : Result :=
  .next (cmpReg .a (.mem (.dp dp)) s)

/-- R303: `CMP A, dp+X`. -/
def execCmpADpX (dp : Byte) (s : State) : Result :=
  .next (cmpReg .a (.mem (.dpX dp)) s)

/-- R304: `CMP A, !abs`. -/
def execCmpAAbs (m : Word) (s : State) : Result :=
  .next (cmpReg .a (.mem (.abs m)) s)

/-- R305: `CMP A, !abs+X`. -/
def execCmpAAbsX (m : Word) (s : State) : Result :=
  .next (cmpReg .a (.mem (.absX m)) s)

/-- R306: `CMP A, (X)`. -/
def execCmpAIndX (s : State) : Result :=
  .next (cmpReg .a (.mem .indX) s)

/-- R307: `CMP A, !abs+Y`. -/
def execCmpAAbsY (m : Word) (s : State) : Result :=
  .next (cmpReg .a (.mem (.absY m)) s)

/-- R308: `CMP A, [dp+X]`. -/
def execCmpADpXInd (dp : Byte) (s : State) : Result :=
  .next (cmpReg .a (.mem (.dpXInd dp)) s)

/-- R309: `CMP A, [dp]+Y`. -/
def execCmpADpIndY (dp : Byte) (s : State) : Result :=
  .next (cmpReg .a (.mem (.dpIndY dp)) s)

/-- R310: `CMP A, #imm`. -/
def execCmpAImm (imm : Byte) (s : State) : Result :=
  .next (cmpReg .a (.imm imm) s)

/-- R311: `CMP dp, #imm`. -/
def execCmpDpImm (dp : Byte) (imm : Byte) (s : State) : Result :=
  .next (cmpMem (.dp dp) (.imm imm) s)

/-- R312: `CMP dd, ss`. -/
def execCmpDdSs (dd : Byte) (ss : Byte) (s : State) : Result :=
  .next (cmpMem (.dp dd) (.mem (.dp ss)) s)

/-- R313: `CMP (X), (Y)`. -/
def execCmpIndXIndY (s : State) : Result :=
  .next (cmpMem .indX (.mem .indY) s)

/-- R314: `ADC A, dp`. -/
def execAdcADp (dp : Byte) (s : State) : Result :=
  .next (aluA .adc (.mem (.dp dp)) s)

/-- R315: `ADC A, dp+X`. -/
def execAdcADpX (dp : Byte) (s : State) : Result :=
  .next (aluA .adc (.mem (.dpX dp)) s)

/-- R316: `ADC A, !abs`. -/
def execAdcAAbs (m : Word) (s : State) : Result :=
  .next (aluA .adc (.mem (.abs m)) s)

/-- R317: `ADC A, !abs+X`. -/
def execAdcAAbsX (m : Word) (s : State) : Result :=
  .next (aluA .adc (.mem (.absX m)) s)

/-- R318: `ADC A, (X)`. -/
def execAdcAIndX (s : State) : Result :=
  .next (aluA .adc (.mem .indX) s)

/-- R319: `ADC A, !abs+Y`. -/
def execAdcAAbsY (m : Word) (s : State) : Result :=
  .next (aluA .adc (.mem (.absY m)) s)

/-- R320: `ADC A, [dp+X]`. -/
def execAdcADpXInd (dp : Byte) (s : State) : Result :=
  .next (aluA .adc (.mem (.dpXInd dp)) s)

/-- R321: `ADC A, [dp]+Y`. -/
def execAdcADpIndY (dp : Byte) (s : State) : Result :=
  .next (aluA .adc (.mem (.dpIndY dp)) s)

/-- R322: `ADC A, #imm`. -/
def execAdcAImm (imm : Byte) (s : State) : Result :=
  .next (aluA .adc (.imm imm) s)

/-- R323: `ADC dp, #imm`. -/
def execAdcDpImm (dp : Byte) (imm : Byte) (s : State) : Result :=
  .next (aluMem .adc (.dp dp) (.imm imm) s)

/-- R324: `ADC dd, ss`. -/
def execAdcDdSs (dd : Byte) (ss : Byte) (s : State) : Result :=
  .next (aluMem .adc (.dp dd) (.mem (.dp ss)) s)

/-- R325: `ADC (X), (Y)`. -/
def execAdcIndXIndY (s : State) : Result :=
  .next (aluMem .adc .indX (.mem .indY) s)

/-- R326: `SBC A, dp`. -/
def execSbcADp (dp : Byte) (s : State) : Result :=
  .next (aluA .sbc (.mem (.dp dp)) s)

/-- R327: `SBC A, dp+X`. -/
def execSbcADpX (dp : Byte) (s : State) : Result :=
  .next (aluA .sbc (.mem (.dpX dp)) s)

/-- R328: `SBC A, !abs`. -/
def execSbcAAbs (m : Word) (s : State) : Result :=
  .next (aluA .sbc (.mem (.abs m)) s)

/-- R329: `SBC A, !abs+X`. -/
def execSbcAAbsX (m : Word) (s : State) : Result :=
  .next (aluA .sbc (.mem (.absX m)) s)

/-- R330: `SBC A, (X)`. -/
def execSbcAIndX (s : State) : Result :=
  .next (aluA .sbc (.mem .indX) s)

/-- R331: `SBC A, !abs+Y`. -/
def execSbcAAbsY (m : Word) (s : State) : Result :=
  .next (aluA .sbc (.mem (.absY m)) s)

/-- R332: `SBC A, [dp+X]`. -/
def execSbcADpXInd (dp : Byte) (s : State) : Result :=
  .next (aluA .sbc (.mem (.dpXInd dp)) s)

/-- R333: `SBC A, [dp]+Y`. -/
def execSbcADpIndY (dp : Byte) (s : State) : Result :=
  .next (aluA .sbc (.mem (.dpIndY dp)) s)

/-- R334: `SBC A, #imm`. -/
def execSbcAImm (imm : Byte) (s : State) : Result :=
  .next (aluA .sbc (.imm imm) s)

/-- R335: `SBC dp, #imm`. -/
def execSbcDpImm (dp : Byte) (imm : Byte) (s : State) : Result :=
  .next (aluMem .sbc (.dp dp) (.imm imm) s)

/-- R336: `SBC dd, ss`. -/
def execSbcDdSs (dd : Byte) (ss : Byte) (s : State) : Result :=
  .next (aluMem .sbc (.dp dd) (.mem (.dp ss)) s)

/-- R337: `SBC (X), (Y)`. -/
def execSbcIndXIndY (s : State) : Result :=
  .next (aluMem .sbc .indX (.mem .indY) s)

/-- R338: `CMP X, #imm`. -/
def execCmpXImm (imm : Byte) (s : State) : Result :=
  .next (cmpReg .x (.imm imm) s)

/-- R339: `CMP X, dp`. -/
def execCmpXDp (dp : Byte) (s : State) : Result :=
  .next (cmpReg .x (.mem (.dp dp)) s)

/-- R340: `CMP X, !abs`. -/
def execCmpXAbs (m : Word) (s : State) : Result :=
  .next (cmpReg .x (.mem (.abs m)) s)

/-- R341: `CMP Y, #imm`. -/
def execCmpYImm (imm : Byte) (s : State) : Result :=
  .next (cmpReg .y (.imm imm) s)

/-- R342: `CMP Y, dp`. -/
def execCmpYDp (dp : Byte) (s : State) : Result :=
  .next (cmpReg .y (.mem (.dp dp)) s)

/-- R343: `CMP Y, !abs`. -/
def execCmpYAbs (m : Word) (s : State) : Result :=
  .next (cmpReg .y (.mem (.abs m)) s)

end Sys2Proof.Machine
end

