-- ==== Sys2Proof/Machine/BitFlag.lean ====
section
/-! DEFINITION. Machine/BitFlag.lean: the bodies (R177) of 45_bit_flag.md: bit set and clear, test-and-set, flag instructions and NOP. PC already names the next
instruction and the cost is committed (R173-R175). -/

namespace Sys2Proof.Machine

/-- R470: `SET1 dp.0`. -/
def execSet1Bit0 (dp : Byte) (s : State) : Result :=
  .next (modifyAt (dpAddr dp s) (setBit 0) s)

/-- R471: `CLR1 dp.0`. -/
def execClr1Bit0 (dp : Byte) (s : State) : Result :=
  .next (modifyAt (dpAddr dp s) (clearBit 0) s)

/-- R472: `SET1 dp.1`. -/
def execSet1Bit1 (dp : Byte) (s : State) : Result :=
  .next (modifyAt (dpAddr dp s) (setBit 1) s)

/-- R473: `CLR1 dp.1`. -/
def execClr1Bit1 (dp : Byte) (s : State) : Result :=
  .next (modifyAt (dpAddr dp s) (clearBit 1) s)

/-- R474: `SET1 dp.2`. -/
def execSet1Bit2 (dp : Byte) (s : State) : Result :=
  .next (modifyAt (dpAddr dp s) (setBit 2) s)

/-- R475: `CLR1 dp.2`. -/
def execClr1Bit2 (dp : Byte) (s : State) : Result :=
  .next (modifyAt (dpAddr dp s) (clearBit 2) s)

/-- R476: `SET1 dp.3`. -/
def execSet1Bit3 (dp : Byte) (s : State) : Result :=
  .next (modifyAt (dpAddr dp s) (setBit 3) s)

/-- R477: `CLR1 dp.3`. -/
def execClr1Bit3 (dp : Byte) (s : State) : Result :=
  .next (modifyAt (dpAddr dp s) (clearBit 3) s)

/-- R478: `SET1 dp.4`. -/
def execSet1Bit4 (dp : Byte) (s : State) : Result :=
  .next (modifyAt (dpAddr dp s) (setBit 4) s)

/-- R479: `CLR1 dp.4`. -/
def execClr1Bit4 (dp : Byte) (s : State) : Result :=
  .next (modifyAt (dpAddr dp s) (clearBit 4) s)

/-- R480: `SET1 dp.5`. -/
def execSet1Bit5 (dp : Byte) (s : State) : Result :=
  .next (modifyAt (dpAddr dp s) (setBit 5) s)

/-- R481: `CLR1 dp.5`. -/
def execClr1Bit5 (dp : Byte) (s : State) : Result :=
  .next (modifyAt (dpAddr dp s) (clearBit 5) s)

/-- R482: `SET1 dp.6`. -/
def execSet1Bit6 (dp : Byte) (s : State) : Result :=
  .next (modifyAt (dpAddr dp s) (setBit 6) s)

/-- R483: `CLR1 dp.6`. -/
def execClr1Bit6 (dp : Byte) (s : State) : Result :=
  .next (modifyAt (dpAddr dp s) (clearBit 6) s)

/-- R484: `SET1 dp.7`. -/
def execSet1Bit7 (dp : Byte) (s : State) : Result :=
  .next (modifyAt (dpAddr dp s) (setBit 7) s)

/-- R485: `CLR1 dp.7`. -/
def execClr1Bit7 (dp : Byte) (s : State) : Result :=
  .next (modifyAt (dpAddr dp s) (clearBit 7) s)

/-- R486: `TSET1 !abs`. -/
def execTset1 (m : Word) (s : State) : Result :=
  .next (testAndModify m (· ||| s.a) s)

/-- R487: `TCLR1 !abs`. -/
def execTclr1 (m : Word) (s : State) : Result :=
  .next (testAndModify m (· &&& ~~~s.a) s)

/-- R488: `CLRC`. -/
def execClrc (s : State) : Result :=
  .next (setC false s)

/-- R489: `SETC`. -/
def execSetc (s : State) : Result :=
  .next (setC true s)

/-- R490: `NOTC`. -/
def execNotc (s : State) : Result :=
  .next (setC (!s.flags.c) s)

/-- R491: `CLRP`. -/
def execClrp (s : State) : Result :=
  .next (setP false s)

/-- R492: `SETP`. -/
def execSetp (s : State) : Result :=
  .next (setP true s)

/-- R493: `NOP`. -/
def execNop (s : State) : Result :=
  .next (s)

end Sys2Proof.Machine
end

