-- ==== Sys2Proof/Machine/Control.lean ====
section
/-! DEFINITION. Machine/Control.lean: the bodies (R177) of 44_control_stack.md: branches, jumps, calls, returns and stack. PC already names the next
instruction and the cost is committed (R173-R175). -/

namespace Sys2Proof.Machine

/-- R412: `BPL rel`. -/
def execBpl (rel : Byte) (s : State) : Result :=
  .next (branch (!s.flags.n) rel s)

/-- R413: `BMI rel`. -/
def execBmi (rel : Byte) (s : State) : Result :=
  .next (branch s.flags.n rel s)

/-- R414: `BVC rel`. -/
def execBvc (rel : Byte) (s : State) : Result :=
  .next (branch (!s.flags.v) rel s)

/-- R415: `BVS rel`. -/
def execBvs (rel : Byte) (s : State) : Result :=
  .next (branch s.flags.v rel s)

/-- R416: `BCC rel`. -/
def execBcc (rel : Byte) (s : State) : Result :=
  .next (branch (!s.flags.c) rel s)

/-- R417: `BCS rel`. -/
def execBcs (rel : Byte) (s : State) : Result :=
  .next (branch s.flags.c rel s)

/-- R418: `BNE rel`. -/
def execBne (rel : Byte) (s : State) : Result :=
  .next (branch (!s.flags.z) rel s)

/-- R419: `BEQ rel`. -/
def execBeq (rel : Byte) (s : State) : Result :=
  .next (branch s.flags.z rel s)

/-- R420: `BRA rel`. -/
def execBra (rel : Byte) (s : State) : Result :=
  .next (branch true rel s)

/-- R421: `BBS dp.0, rel`. -/
def execBbsBit0 (dp : Byte) (rel : Byte) (s : State) : Result :=
  .next (branchOnBit true 0 dp rel s)

/-- R422: `BBC dp.0, rel`. -/
def execBbcBit0 (dp : Byte) (rel : Byte) (s : State) : Result :=
  .next (branchOnBit false 0 dp rel s)

/-- R423: `BBS dp.1, rel`. -/
def execBbsBit1 (dp : Byte) (rel : Byte) (s : State) : Result :=
  .next (branchOnBit true 1 dp rel s)

/-- R424: `BBC dp.1, rel`. -/
def execBbcBit1 (dp : Byte) (rel : Byte) (s : State) : Result :=
  .next (branchOnBit false 1 dp rel s)

/-- R425: `BBS dp.2, rel`. -/
def execBbsBit2 (dp : Byte) (rel : Byte) (s : State) : Result :=
  .next (branchOnBit true 2 dp rel s)

/-- R426: `BBC dp.2, rel`. -/
def execBbcBit2 (dp : Byte) (rel : Byte) (s : State) : Result :=
  .next (branchOnBit false 2 dp rel s)

/-- R427: `BBS dp.3, rel`. -/
def execBbsBit3 (dp : Byte) (rel : Byte) (s : State) : Result :=
  .next (branchOnBit true 3 dp rel s)

/-- R428: `BBC dp.3, rel`. -/
def execBbcBit3 (dp : Byte) (rel : Byte) (s : State) : Result :=
  .next (branchOnBit false 3 dp rel s)

/-- R429: `BBS dp.4, rel`. -/
def execBbsBit4 (dp : Byte) (rel : Byte) (s : State) : Result :=
  .next (branchOnBit true 4 dp rel s)

/-- R430: `BBC dp.4, rel`. -/
def execBbcBit4 (dp : Byte) (rel : Byte) (s : State) : Result :=
  .next (branchOnBit false 4 dp rel s)

/-- R431: `BBS dp.5, rel`. -/
def execBbsBit5 (dp : Byte) (rel : Byte) (s : State) : Result :=
  .next (branchOnBit true 5 dp rel s)

/-- R432: `BBC dp.5, rel`. -/
def execBbcBit5 (dp : Byte) (rel : Byte) (s : State) : Result :=
  .next (branchOnBit false 5 dp rel s)

/-- R433: `BBS dp.6, rel`. -/
def execBbsBit6 (dp : Byte) (rel : Byte) (s : State) : Result :=
  .next (branchOnBit true 6 dp rel s)

/-- R434: `BBC dp.6, rel`. -/
def execBbcBit6 (dp : Byte) (rel : Byte) (s : State) : Result :=
  .next (branchOnBit false 6 dp rel s)

/-- R435: `BBS dp.7, rel`. -/
def execBbsBit7 (dp : Byte) (rel : Byte) (s : State) : Result :=
  .next (branchOnBit true 7 dp rel s)

/-- R436: `BBC dp.7, rel`. -/
def execBbcBit7 (dp : Byte) (rel : Byte) (s : State) : Result :=
  .next (branchOnBit false 7 dp rel s)

/-- R437: `CBNE dp, rel`. -/
def execCbneDp (dp : Byte) (rel : Byte) (s : State) : Result :=
  .next (compareAndBranch (.dp dp) rel s)

/-- R438: `CBNE dp+X, rel`. -/
def execCbneDpX (dp : Byte) (rel : Byte) (s : State) : Result :=
  .next (compareAndBranch (.dpX dp) rel s)

/-- R439: `DBNZ dp, rel`. -/
def execDbnzDp (dp : Byte) (rel : Byte) (s : State) : Result :=
  .next (
    let (v, s1) := memRead (dpAddr dp s) s
    branch (v - 1 != 0) rel (memWrite (dpAddr dp s1) (v - 1) s1))

/-- R440: `DBNZ Y, rel`. -/
def execDbnzY (rel : Byte) (s : State) : Result :=
  .next (branch (s.y - 1 != 0) rel { s with y := s.y - 1 })

/-- R441: `JMP !abs`. -/
def execJmpAbs (m : Word) (s : State) : Result :=
  .next ({ s with pc := m })

/-- R442: `JMP [!abs+X]`. -/
def execJmpAbsXInd (m : Word) (s : State) : Result :=
  .next (jumpThrough (m + s.x.setWidth 16) s)

/-- R443: `CALL !abs`. -/
def execCall (m : Word) (s : State) : Result :=
  .next ({ pushPc s with pc := m })

/-- R444: `PCALL up`. -/
def execPcall (up : Byte) (s : State) : Result :=
  .next ({ pushPc s with pc := Word.mk 0xFF up })

/-- R445: `TCALL 0`. -/
def execTcall0 (s : State) : Result :=
  .next (tableCall 0 s)

/-- R446: `TCALL 1`. -/
def execTcall1 (s : State) : Result :=
  .next (tableCall 1 s)

/-- R447: `TCALL 2`. -/
def execTcall2 (s : State) : Result :=
  .next (tableCall 2 s)

/-- R448: `TCALL 3`. -/
def execTcall3 (s : State) : Result :=
  .next (tableCall 3 s)

/-- R449: `TCALL 4`. -/
def execTcall4 (s : State) : Result :=
  .next (tableCall 4 s)

/-- R450: `TCALL 5`. -/
def execTcall5 (s : State) : Result :=
  .next (tableCall 5 s)

/-- R451: `TCALL 6`. -/
def execTcall6 (s : State) : Result :=
  .next (tableCall 6 s)

/-- R452: `TCALL 7`. -/
def execTcall7 (s : State) : Result :=
  .next (tableCall 7 s)

/-- R453: `TCALL 8`. -/
def execTcall8 (s : State) : Result :=
  .next (tableCall 8 s)

/-- R454: `TCALL 9`. -/
def execTcall9 (s : State) : Result :=
  .next (tableCall 9 s)

/-- R455: `TCALL 10`. -/
def execTcall10 (s : State) : Result :=
  .next (tableCall 10 s)

/-- R456: `TCALL 11`. -/
def execTcall11 (s : State) : Result :=
  .next (tableCall 11 s)

/-- R457: `TCALL 12`. -/
def execTcall12 (s : State) : Result :=
  .next (tableCall 12 s)

/-- R458: `TCALL 13`. -/
def execTcall13 (s : State) : Result :=
  .next (tableCall 13 s)

/-- R459: `TCALL 14`. -/
def execTcall14 (s : State) : Result :=
  .next (tableCall 14 s)

/-- R460: `TCALL 15`. -/
def execTcall15 (s : State) : Result :=
  .next (tableCall 15 s)

/-- R461: `RET`. -/
def execRet (s : State) : Result :=
  .next (popPc s)

/-- R462: `PUSH A`. -/
def execPushA (s : State) : Result :=
  .next (push s.a s)

/-- R463: `PUSH X`. -/
def execPushX (s : State) : Result :=
  .next (push s.x s)

/-- R464: `PUSH Y`. -/
def execPushY (s : State) : Result :=
  .next (push s.y s)

/-- R465: `PUSH PSW`. -/
def execPushPsw (s : State) : Result :=
  .next (push s.packPsw s)

/-- R466: `POP A`. -/
def execPopA (s : State) : Result :=
  .next (
    let (v, s1) := pop s
    s1.setReg .a v)

/-- R467: `POP X`. -/
def execPopX (s : State) : Result :=
  .next (
    let (v, s1) := pop s
    s1.setReg .x v)

/-- R468: `POP Y`. -/
def execPopY (s : State) : Result :=
  .next (
    let (v, s1) := pop s
    s1.setReg .y v)

/-- R469: `POP PSW`. -/
def execPopPsw (s : State) : Result :=
  .next (
    let (v, s1) := pop s
    s1.unpackPsw v)

end Sys2Proof.Machine
end

