-- ==== Sys2Proof/Machine/IncDecShift.lean ====
section
/-! DEFINITION. Machine/IncDecShift.lean: the bodies (R177) of 42_inc_dec_shift.md: increment, decrement, shifts, rotates and nibble swap. PC already names the next
instruction and the cost is committed (R173-R175). -/

namespace Sys2Proof.Machine

/-- R356: `ASL dp`. -/
def execAslDp (dp : Byte) (s : State) : Result :=
  .next (rmwMem .asl (.dp dp) s)

/-- R357: `ASL dp+X`. -/
def execAslDpX (dp : Byte) (s : State) : Result :=
  .next (rmwMem .asl (.dpX dp) s)

/-- R358: `ASL !abs`. -/
def execAslAbs (m : Word) (s : State) : Result :=
  .next (rmwMem .asl (.abs m) s)

/-- R359: `ASL A`. -/
def execAslA (s : State) : Result :=
  .next (rmwReg .asl .a s)

/-- R360: `ROL dp`. -/
def execRolDp (dp : Byte) (s : State) : Result :=
  .next (rmwMem .rol (.dp dp) s)

/-- R361: `ROL dp+X`. -/
def execRolDpX (dp : Byte) (s : State) : Result :=
  .next (rmwMem .rol (.dpX dp) s)

/-- R362: `ROL !abs`. -/
def execRolAbs (m : Word) (s : State) : Result :=
  .next (rmwMem .rol (.abs m) s)

/-- R363: `ROL A`. -/
def execRolA (s : State) : Result :=
  .next (rmwReg .rol .a s)

/-- R364: `LSR dp`. -/
def execLsrDp (dp : Byte) (s : State) : Result :=
  .next (rmwMem .lsr (.dp dp) s)

/-- R365: `LSR dp+X`. -/
def execLsrDpX (dp : Byte) (s : State) : Result :=
  .next (rmwMem .lsr (.dpX dp) s)

/-- R366: `LSR !abs`. -/
def execLsrAbs (m : Word) (s : State) : Result :=
  .next (rmwMem .lsr (.abs m) s)

/-- R367: `LSR A`. -/
def execLsrA (s : State) : Result :=
  .next (rmwReg .lsr .a s)

/-- R368: `ROR dp`. -/
def execRorDp (dp : Byte) (s : State) : Result :=
  .next (rmwMem .ror (.dp dp) s)

/-- R369: `ROR dp+X`. -/
def execRorDpX (dp : Byte) (s : State) : Result :=
  .next (rmwMem .ror (.dpX dp) s)

/-- R370: `ROR !abs`. -/
def execRorAbs (m : Word) (s : State) : Result :=
  .next (rmwMem .ror (.abs m) s)

/-- R371: `ROR A`. -/
def execRorA (s : State) : Result :=
  .next (rmwReg .ror .a s)

/-- R372: `DEC dp`. -/
def execDecDp (dp : Byte) (s : State) : Result :=
  .next (rmwMem .dec (.dp dp) s)

/-- R373: `DEC dp+X`. -/
def execDecDpX (dp : Byte) (s : State) : Result :=
  .next (rmwMem .dec (.dpX dp) s)

/-- R374: `DEC !abs`. -/
def execDecAbs (m : Word) (s : State) : Result :=
  .next (rmwMem .dec (.abs m) s)

/-- R375: `DEC A`. -/
def execDecA (s : State) : Result :=
  .next (rmwReg .dec .a s)

/-- R376: `INC dp`. -/
def execIncDp (dp : Byte) (s : State) : Result :=
  .next (rmwMem .inc (.dp dp) s)

/-- R377: `INC dp+X`. -/
def execIncDpX (dp : Byte) (s : State) : Result :=
  .next (rmwMem .inc (.dpX dp) s)

/-- R378: `INC !abs`. -/
def execIncAbs (m : Word) (s : State) : Result :=
  .next (rmwMem .inc (.abs m) s)

/-- R379: `INC A`. -/
def execIncA (s : State) : Result :=
  .next (rmwReg .inc .a s)

/-- R380: `DEC X`. -/
def execDecX (s : State) : Result :=
  .next (rmwReg .dec .x s)

/-- R381: `INC X`. -/
def execIncX (s : State) : Result :=
  .next (rmwReg .inc .x s)

/-- R382: `DEC Y`. -/
def execDecY (s : State) : Result :=
  .next (rmwReg .dec .y s)

/-- R383: `INC Y`. -/
def execIncY (s : State) : Result :=
  .next (rmwReg .inc .y s)

/-- R384: `XCN A`. -/
def execXcn (s : State) : Result :=
  .next (moveTo .a (s.a >>> 4 ||| s.a <<< 4) s)

end Sys2Proof.Machine
end

