-- ==== Sys2Proof/Machine/LoadStore.lean ====
section
/-! DEFINITION. Machine/LoadStore.lean: the bodies (R177) of 40_load_store.md: loads, stores and register moves. PC already names the next
instruction and the cost is committed (R173-R175). -/

namespace Sys2Proof.Machine

/-- R200: `MOV A, #imm`. -/
def execMovAImm (imm : Byte) (s : State) : Result :=
  .next (load .a (.imm imm) s)

/-- R201: `MOV A, (X)`. -/
def execMovAIndX (s : State) : Result :=
  .next (load .a (.mem .indX) s)

/-- R202: `MOV A, (X)+`. -/
def execMovAIndXInc (s : State) : Result :=
  .next (
    let s1 := load .a (.mem .indX) s
    { s1 with x := s1.x + 1 })

/-- R203: `MOV A, dp`. -/
def execMovADp (dp : Byte) (s : State) : Result :=
  .next (load .a (.mem (.dp dp)) s)

/-- R204: `MOV A, dp+X`. -/
def execMovADpX (dp : Byte) (s : State) : Result :=
  .next (load .a (.mem (.dpX dp)) s)

/-- R205: `MOV A, !abs`. -/
def execMovAAbs (m : Word) (s : State) : Result :=
  .next (load .a (.mem (.abs m)) s)

/-- R206: `MOV A, !abs+X`. -/
def execMovAAbsX (m : Word) (s : State) : Result :=
  .next (load .a (.mem (.absX m)) s)

/-- R207: `MOV A, !abs+Y`. -/
def execMovAAbsY (m : Word) (s : State) : Result :=
  .next (load .a (.mem (.absY m)) s)

/-- R208: `MOV A, [dp+X]`. -/
def execMovADpXInd (dp : Byte) (s : State) : Result :=
  .next (load .a (.mem (.dpXInd dp)) s)

/-- R209: `MOV A, [dp]+Y`. -/
def execMovADpIndY (dp : Byte) (s : State) : Result :=
  .next (load .a (.mem (.dpIndY dp)) s)

/-- R210: `MOV X, #imm`. -/
def execMovXImm (imm : Byte) (s : State) : Result :=
  .next (load .x (.imm imm) s)

/-- R211: `MOV X, dp`. -/
def execMovXDp (dp : Byte) (s : State) : Result :=
  .next (load .x (.mem (.dp dp)) s)

/-- R212: `MOV X, dp+Y`. -/
def execMovXDpY (dp : Byte) (s : State) : Result :=
  .next (load .x (.mem (.dpY dp)) s)

/-- R213: `MOV X, !abs`. -/
def execMovXAbs (m : Word) (s : State) : Result :=
  .next (load .x (.mem (.abs m)) s)

/-- R214: `MOV Y, #imm`. -/
def execMovYImm (imm : Byte) (s : State) : Result :=
  .next (load .y (.imm imm) s)

/-- R215: `MOV Y, dp`. -/
def execMovYDp (dp : Byte) (s : State) : Result :=
  .next (load .y (.mem (.dp dp)) s)

/-- R216: `MOV Y, dp+X`. -/
def execMovYDpX (dp : Byte) (s : State) : Result :=
  .next (load .y (.mem (.dpX dp)) s)

/-- R217: `MOV Y, !abs`. -/
def execMovYAbs (m : Word) (s : State) : Result :=
  .next (load .y (.mem (.abs m)) s)

/-- R218: `MOV (X), A`. -/
def execMovIndXFromA (s : State) : Result :=
  .next (store .indX .a s)

/-- R219: `MOV (X)+, A`. -/
def execMovIndXIncFromA (s : State) : Result :=
  .next (
    let s1 := store .indX .a s
    { s1 with x := s1.x + 1 })

/-- R220: `MOV dp, A`. -/
def execMovDpFromA (dp : Byte) (s : State) : Result :=
  .next (store (.dp dp) .a s)

/-- R221: `MOV dp+X, A`. -/
def execMovDpXFromA (dp : Byte) (s : State) : Result :=
  .next (store (.dpX dp) .a s)

/-- R222: `MOV !abs, A`. -/
def execMovAbsFromA (m : Word) (s : State) : Result :=
  .next (store (.abs m) .a s)

/-- R223: `MOV !abs+X, A`. -/
def execMovAbsXFromA (m : Word) (s : State) : Result :=
  .next (store (.absX m) .a s)

/-- R224: `MOV !abs+Y, A`. -/
def execMovAbsYFromA (m : Word) (s : State) : Result :=
  .next (store (.absY m) .a s)

/-- R225: `MOV [dp+X], A`. -/
def execMovDpXIndFromA (dp : Byte) (s : State) : Result :=
  .next (store (.dpXInd dp) .a s)

/-- R226: `MOV [dp]+Y, A`. -/
def execMovDpIndYFromA (dp : Byte) (s : State) : Result :=
  .next (store (.dpIndY dp) .a s)

/-- R227: `MOV dp, X`. -/
def execMovDpFromX (dp : Byte) (s : State) : Result :=
  .next (store (.dp dp) .x s)

/-- R228: `MOV dp+Y, X`. -/
def execMovDpYFromX (dp : Byte) (s : State) : Result :=
  .next (store (.dpY dp) .x s)

/-- R229: `MOV !abs, X`. -/
def execMovAbsFromX (m : Word) (s : State) : Result :=
  .next (store (.abs m) .x s)

/-- R230: `MOV dp, Y`. -/
def execMovDpFromY (dp : Byte) (s : State) : Result :=
  .next (store (.dp dp) .y s)

/-- R231: `MOV dp+X, Y`. -/
def execMovDpXFromY (dp : Byte) (s : State) : Result :=
  .next (store (.dpX dp) .y s)

/-- R232: `MOV !abs, Y`. -/
def execMovAbsFromY (m : Word) (s : State) : Result :=
  .next (store (.abs m) .y s)

/-- R233: `MOV A, X`. -/
def execMovAX (s : State) : Result :=
  .next (moveTo .a s.x s)

/-- R234: `MOV A, Y`. -/
def execMovAY (s : State) : Result :=
  .next (moveTo .a s.y s)

/-- R235: `MOV X, A`. -/
def execMovXA (s : State) : Result :=
  .next (moveTo .x s.a s)

/-- R236: `MOV Y, A`. -/
def execMovYA (s : State) : Result :=
  .next (moveTo .y s.a s)

/-- R237: `MOV X, SP`. -/
def execMovXSp (s : State) : Result :=
  .next (moveTo .x s.sp s)

/-- R238: `MOV SP, X`. -/
def execMovSpX (s : State) : Result :=
  .next ({ s with sp := s.x })

/-- R239: `MOV dd, ss`. -/
def execMovDdSs (dd : Byte) (ss : Byte) (s : State) : Result :=
  .next (
    let (v, s1) := (Source.mem (.dp ss)).read s
    memWrite (dpAddr dd s1) v s1)

/-- R240: `MOV dp, #imm`. -/
def execMovDpImm (dp : Byte) (imm : Byte) (s : State) : Result :=
  .next (memWrite (dpAddr dp s) imm s)

end Sys2Proof.Machine
end

