-- ==== Sys2Proof/Machine/Unnamed.lean ====
section
/-! DEFINITION. Machine/Unnamed.lean: the bodies (R177) of 46_unnamed_opcodes.md: the opcodes the source does not name. PC already names the next
instruction and the cost is committed (R173-R175). -/

namespace Sys2Proof.Machine

/-- R501: `OR1 C, m.b`. -/
def execOr1CMb (m : Word) (bit : Fin 8) (s : State) : Result :=
  .next (carryFromBit (fun c b => c || b) m bit s)

/-- R502: `OR1 C, /m.b`. -/
def execOr1CNotMb (m : Word) (bit : Fin 8) (s : State) : Result :=
  .next (carryFromBit (fun c b => c || !b) m bit s)

/-- R503: `AND1 C, m.b`. -/
def execAnd1CMb (m : Word) (bit : Fin 8) (s : State) : Result :=
  .next (carryFromBit (fun c b => c && b) m bit s)

/-- R504: `AND1 C, /m.b`. -/
def execAnd1CNotMb (m : Word) (bit : Fin 8) (s : State) : Result :=
  .next (carryFromBit (fun c b => c && !b) m bit s)

/-- R505: `EOR1 C, m.b`. -/
def execEor1CMb (m : Word) (bit : Fin 8) (s : State) : Result :=
  .next (carryFromBit (fun c b => c != b) m bit s)

/-- R506: `MOV1 C, m.b`. -/
def execMov1CMb (m : Word) (bit : Fin 8) (s : State) : Result :=
  .next (carryFromBit (fun _ b => b) m bit s)

/-- R507: `MOV1 m.b, C`. -/
def execMov1MbFromC (m : Word) (bit : Fin 8) (s : State) : Result :=
  .next (modifyAt m (if s.flags.c then setBit bit else clearBit bit) s)

/-- R508: `NOT1 m.b`. -/
def execNot1 (m : Word) (bit : Fin 8) (s : State) : Result :=
  .next (modifyAt m (· ^^^ (1 : Byte) <<< bit.val) s)

/-- R509: `CLRV`. -/
def execClrv (s : State) : Result :=
  .next (setH false (setV false s))

/-- R510: `EI`. -/
def execEi (s : State) : Result :=
  .next (setI true s)

/-- R511: `DI`. -/
def execDi (s : State) : Result :=
  .next (setI false s)

/-- R512: `DAA A`. -/
def execDaa (s : State) : Result :=
  .next (decimalAdd s)

/-- R513: `DAS A`. -/
def execDas (s : State) : Result :=
  .next (decimalSub s)

/-- R514: `BRK`. -/
def execBrk (s : State) : Result :=
  .next (enterBreak s)

/-- R515: `RETI`. -/
def execReti (s : State) : Result :=
  .next (returnFromBreak s)

/-- R516: `SLEEP`. -/
def execSleep (s : State) : Result :=
  .next ({ s with halted := true })

/-- R517: `STOP`. -/
def execStop (s : State) : Result :=
  .next ({ s with halted := true })

end Sys2Proof.Machine
end

