-- ==== Sys2Proof/Machine/WordMulDiv.lean ====
section
/-! DEFINITION. Machine/WordMulDiv.lean: the bodies (R177) of 43_word_muldiv.md: 16-bit word operations, multiply and divide. PC already names the next
instruction and the cost is committed (R173-R175). -/

namespace Sys2Proof.Machine

/-- R393: `MOVW YA, dp`. -/
def execMovwYaDp (dp : Byte) (s : State) : Result :=
  .next (
    let (w, s1) := readWordDp dp s
    setNZ16 w (s1.setYa w))

/-- R394: `MOVW dp, YA`. -/
def execMovwDpYa (dp : Byte) (s : State) : Result :=
  .next (
    let s1 := memWrite (dpAddr dp s) s.a s
    memWrite (dpAddr (dp + 1) s1) s1.y s1)

/-- R395: `INCW dp`. -/
def execIncw (dp : Byte) (s : State) : Result :=
  .next (modifyWordDp (· + 1) dp s)

/-- R396: `DECW dp`. -/
def execDecw (dp : Byte) (s : State) : Result :=
  .next (modifyWordDp (· - 1) dp s)

/-- R397: `ADDW YA, dp`. -/
def execAddw (dp : Byte) (s : State) : Result :=
  .next (
    let (w, s1) := readWordDp dp s
    let (r, s2) := wordAdd s1.ya w (cin16 s1) s1
    s2.setYa r)

/-- R398: `SUBW YA, dp`. -/
def execSubw (dp : Byte) (s : State) : Result :=
  .next (
    let (w, s1) := readWordDp dp s
    let (r, s2) := wordAdd s1.ya (~~~w) (cin16s s1) s1
    s2.setYa r)

/-- R399: `CMPW YA, dp`. -/
def execCmpw (dp : Byte) (s : State) : Result :=
  .next (
    let (w, s1) := readWordDp dp s
    wordCmp s1.ya w s1)

/-- R400: `MUL YA`. -/
def execMul (s : State) : Result :=
  .next (
    let r : Word := BitVec.ofNat 16 (s.y.toNat * s.a.toNat)
    setNZ8 r.hi (s.setYa r))

/-- R401: `DIV YA, X`. -/
def execDiv (s : State) : Result :=
  .next (
    let (q, r) := divide s.params s.ya s.x
    let s1 := setV (decide (s.y ≥ s.x)) s
    let s2 :=
      match s.params.flagProfile with
      | .spcjs => s1
      | .hardware => setH (decide (s.y &&& 0x0F ≥ s.x &&& 0x0F)) s1
    setNZ8 (BitVec.ofNat 8 q) { s2 with a := BitVec.ofNat 8 q, y := BitVec.ofNat 8 r })

end Sys2Proof.Machine
end

