-- ==== Sys2Proof/Machine/Dispatch.lean ====
section
/-! DEFINITION. Machine/Dispatch.lean: one arm per constructor of Instr, each one direct call of its meaning (R177). -/

namespace Sys2Proof.Machine

open Sys2Proof

def exec (i : Instr) (s : State) : Host.Outcome State Fault Refusal :=
  match i with
  | .nop => Sys2Proof.Machine.execNop s
  | .tcall0 => Sys2Proof.Machine.execTcall0 s
  | .set1Bit0 dp => Sys2Proof.Machine.execSet1Bit0 dp s
  | .bbsBit0 dp rel => Sys2Proof.Machine.execBbsBit0 dp rel s
  | .orADp dp => Sys2Proof.Machine.execOrADp dp s
  | .orAAbs m => Sys2Proof.Machine.execOrAAbs m s
  | .orAIndX => Sys2Proof.Machine.execOrAIndX s
  | .orADpXInd dp => Sys2Proof.Machine.execOrADpXInd dp s
  | .orAImm imm => Sys2Proof.Machine.execOrAImm imm s
  | .orDdSs dd ss => Sys2Proof.Machine.execOrDdSs dd ss s
  | .or1CMb m bit => Sys2Proof.Machine.execOr1CMb m bit s
  | .aslDp dp => Sys2Proof.Machine.execAslDp dp s
  | .aslAbs m => Sys2Proof.Machine.execAslAbs m s
  | .pushPsw => Sys2Proof.Machine.execPushPsw s
  | .tset1 m => Sys2Proof.Machine.execTset1 m s
  | .brk => Sys2Proof.Machine.execBrk s
  | .bpl rel => Sys2Proof.Machine.execBpl rel s
  | .tcall1 => Sys2Proof.Machine.execTcall1 s
  | .clr1Bit0 dp => Sys2Proof.Machine.execClr1Bit0 dp s
  | .bbcBit0 dp rel => Sys2Proof.Machine.execBbcBit0 dp rel s
  | .orADpX dp => Sys2Proof.Machine.execOrADpX dp s
  | .orAAbsX m => Sys2Proof.Machine.execOrAAbsX m s
  | .orAAbsY m => Sys2Proof.Machine.execOrAAbsY m s
  | .orADpIndY dp => Sys2Proof.Machine.execOrADpIndY dp s
  | .orDpImm dp imm => Sys2Proof.Machine.execOrDpImm dp imm s
  | .orIndXIndY => Sys2Proof.Machine.execOrIndXIndY s
  | .decw dp => Sys2Proof.Machine.execDecw dp s
  | .aslDpX dp => Sys2Proof.Machine.execAslDpX dp s
  | .aslA => Sys2Proof.Machine.execAslA s
  | .decX => Sys2Proof.Machine.execDecX s
  | .cmpXAbs m => Sys2Proof.Machine.execCmpXAbs m s
  | .jmpAbsXInd m => Sys2Proof.Machine.execJmpAbsXInd m s
  | .clrp => Sys2Proof.Machine.execClrp s
  | .tcall2 => Sys2Proof.Machine.execTcall2 s
  | .set1Bit1 dp => Sys2Proof.Machine.execSet1Bit1 dp s
  | .bbsBit1 dp rel => Sys2Proof.Machine.execBbsBit1 dp rel s
  | .andADp dp => Sys2Proof.Machine.execAndADp dp s
  | .andAAbs m => Sys2Proof.Machine.execAndAAbs m s
  | .andAIndX => Sys2Proof.Machine.execAndAIndX s
  | .andADpXInd dp => Sys2Proof.Machine.execAndADpXInd dp s
  | .andAImm imm => Sys2Proof.Machine.execAndAImm imm s
  | .andDdSs dd ss => Sys2Proof.Machine.execAndDdSs dd ss s
  | .or1CNotMb m bit => Sys2Proof.Machine.execOr1CNotMb m bit s
  | .rolDp dp => Sys2Proof.Machine.execRolDp dp s
  | .rolAbs m => Sys2Proof.Machine.execRolAbs m s
  | .pushA => Sys2Proof.Machine.execPushA s
  | .cbneDp dp rel => Sys2Proof.Machine.execCbneDp dp rel s
  | .bra rel => Sys2Proof.Machine.execBra rel s
  | .bmi rel => Sys2Proof.Machine.execBmi rel s
  | .tcall3 => Sys2Proof.Machine.execTcall3 s
  | .clr1Bit1 dp => Sys2Proof.Machine.execClr1Bit1 dp s
  | .bbcBit1 dp rel => Sys2Proof.Machine.execBbcBit1 dp rel s
  | .andADpX dp => Sys2Proof.Machine.execAndADpX dp s
  | .andAAbsX m => Sys2Proof.Machine.execAndAAbsX m s
  | .andAAbsY m => Sys2Proof.Machine.execAndAAbsY m s
  | .andADpIndY dp => Sys2Proof.Machine.execAndADpIndY dp s
  | .andDpImm dp imm => Sys2Proof.Machine.execAndDpImm dp imm s
  | .andIndXIndY => Sys2Proof.Machine.execAndIndXIndY s
  | .incw dp => Sys2Proof.Machine.execIncw dp s
  | .rolDpX dp => Sys2Proof.Machine.execRolDpX dp s
  | .rolA => Sys2Proof.Machine.execRolA s
  | .incX => Sys2Proof.Machine.execIncX s
  | .cmpXDp dp => Sys2Proof.Machine.execCmpXDp dp s
  | .call m => Sys2Proof.Machine.execCall m s
  | .setp => Sys2Proof.Machine.execSetp s
  | .tcall4 => Sys2Proof.Machine.execTcall4 s
  | .set1Bit2 dp => Sys2Proof.Machine.execSet1Bit2 dp s
  | .bbsBit2 dp rel => Sys2Proof.Machine.execBbsBit2 dp rel s
  | .eorADp dp => Sys2Proof.Machine.execEorADp dp s
  | .eorAAbs m => Sys2Proof.Machine.execEorAAbs m s
  | .eorAIndX => Sys2Proof.Machine.execEorAIndX s
  | .eorADpXInd dp => Sys2Proof.Machine.execEorADpXInd dp s
  | .eorAImm imm => Sys2Proof.Machine.execEorAImm imm s
  | .eorDdSs dd ss => Sys2Proof.Machine.execEorDdSs dd ss s
  | .and1CMb m bit => Sys2Proof.Machine.execAnd1CMb m bit s
  | .lsrDp dp => Sys2Proof.Machine.execLsrDp dp s
  | .lsrAbs m => Sys2Proof.Machine.execLsrAbs m s
  | .pushX => Sys2Proof.Machine.execPushX s
  | .tclr1 m => Sys2Proof.Machine.execTclr1 m s
  | .pcall up => Sys2Proof.Machine.execPcall up s
  | .bvc rel => Sys2Proof.Machine.execBvc rel s
  | .tcall5 => Sys2Proof.Machine.execTcall5 s
  | .clr1Bit2 dp => Sys2Proof.Machine.execClr1Bit2 dp s
  | .bbcBit2 dp rel => Sys2Proof.Machine.execBbcBit2 dp rel s
  | .eorADpX dp => Sys2Proof.Machine.execEorADpX dp s
  | .eorAAbsX m => Sys2Proof.Machine.execEorAAbsX m s
  | .eorAAbsY m => Sys2Proof.Machine.execEorAAbsY m s
  | .eorADpIndY dp => Sys2Proof.Machine.execEorADpIndY dp s
  | .eorDpImm dp imm => Sys2Proof.Machine.execEorDpImm dp imm s
  | .eorIndXIndY => Sys2Proof.Machine.execEorIndXIndY s
  | .cmpw dp => Sys2Proof.Machine.execCmpw dp s
  | .lsrDpX dp => Sys2Proof.Machine.execLsrDpX dp s
  | .lsrA => Sys2Proof.Machine.execLsrA s
  | .movXA => Sys2Proof.Machine.execMovXA s
  | .cmpYAbs m => Sys2Proof.Machine.execCmpYAbs m s
  | .jmpAbs m => Sys2Proof.Machine.execJmpAbs m s
  | .clrc => Sys2Proof.Machine.execClrc s
  | .tcall6 => Sys2Proof.Machine.execTcall6 s
  | .set1Bit3 dp => Sys2Proof.Machine.execSet1Bit3 dp s
  | .bbsBit3 dp rel => Sys2Proof.Machine.execBbsBit3 dp rel s
  | .cmpADp dp => Sys2Proof.Machine.execCmpADp dp s
  | .cmpAAbs m => Sys2Proof.Machine.execCmpAAbs m s
  | .cmpAIndX => Sys2Proof.Machine.execCmpAIndX s
  | .cmpADpXInd dp => Sys2Proof.Machine.execCmpADpXInd dp s
  | .cmpAImm imm => Sys2Proof.Machine.execCmpAImm imm s
  | .cmpDdSs dd ss => Sys2Proof.Machine.execCmpDdSs dd ss s
  | .and1CNotMb m bit => Sys2Proof.Machine.execAnd1CNotMb m bit s
  | .rorDp dp => Sys2Proof.Machine.execRorDp dp s
  | .rorAbs m => Sys2Proof.Machine.execRorAbs m s
  | .pushY => Sys2Proof.Machine.execPushY s
  | .dbnzDp dp rel => Sys2Proof.Machine.execDbnzDp dp rel s
  | .ret => Sys2Proof.Machine.execRet s
  | .bvs rel => Sys2Proof.Machine.execBvs rel s
  | .tcall7 => Sys2Proof.Machine.execTcall7 s
  | .clr1Bit3 dp => Sys2Proof.Machine.execClr1Bit3 dp s
  | .bbcBit3 dp rel => Sys2Proof.Machine.execBbcBit3 dp rel s
  | .cmpADpX dp => Sys2Proof.Machine.execCmpADpX dp s
  | .cmpAAbsX m => Sys2Proof.Machine.execCmpAAbsX m s
  | .cmpAAbsY m => Sys2Proof.Machine.execCmpAAbsY m s
  | .cmpADpIndY dp => Sys2Proof.Machine.execCmpADpIndY dp s
  | .cmpDpImm dp imm => Sys2Proof.Machine.execCmpDpImm dp imm s
  | .cmpIndXIndY => Sys2Proof.Machine.execCmpIndXIndY s
  | .addw dp => Sys2Proof.Machine.execAddw dp s
  | .rorDpX dp => Sys2Proof.Machine.execRorDpX dp s
  | .rorA => Sys2Proof.Machine.execRorA s
  | .movAX => Sys2Proof.Machine.execMovAX s
  | .cmpYDp dp => Sys2Proof.Machine.execCmpYDp dp s
  | .reti => Sys2Proof.Machine.execReti s
  | .setc => Sys2Proof.Machine.execSetc s
  | .tcall8 => Sys2Proof.Machine.execTcall8 s
  | .set1Bit4 dp => Sys2Proof.Machine.execSet1Bit4 dp s
  | .bbsBit4 dp rel => Sys2Proof.Machine.execBbsBit4 dp rel s
  | .adcADp dp => Sys2Proof.Machine.execAdcADp dp s
  | .adcAAbs m => Sys2Proof.Machine.execAdcAAbs m s
  | .adcAIndX => Sys2Proof.Machine.execAdcAIndX s
  | .adcADpXInd dp => Sys2Proof.Machine.execAdcADpXInd dp s
  | .adcAImm imm => Sys2Proof.Machine.execAdcAImm imm s
  | .adcDdSs dd ss => Sys2Proof.Machine.execAdcDdSs dd ss s
  | .eor1CMb m bit => Sys2Proof.Machine.execEor1CMb m bit s
  | .decDp dp => Sys2Proof.Machine.execDecDp dp s
  | .decAbs m => Sys2Proof.Machine.execDecAbs m s
  | .movYImm imm => Sys2Proof.Machine.execMovYImm imm s
  | .popPsw => Sys2Proof.Machine.execPopPsw s
  | .movDpImm dp imm => Sys2Proof.Machine.execMovDpImm dp imm s
  | .bcc rel => Sys2Proof.Machine.execBcc rel s
  | .tcall9 => Sys2Proof.Machine.execTcall9 s
  | .clr1Bit4 dp => Sys2Proof.Machine.execClr1Bit4 dp s
  | .bbcBit4 dp rel => Sys2Proof.Machine.execBbcBit4 dp rel s
  | .adcADpX dp => Sys2Proof.Machine.execAdcADpX dp s
  | .adcAAbsX m => Sys2Proof.Machine.execAdcAAbsX m s
  | .adcAAbsY m => Sys2Proof.Machine.execAdcAAbsY m s
  | .adcADpIndY dp => Sys2Proof.Machine.execAdcADpIndY dp s
  | .adcDpImm dp imm => Sys2Proof.Machine.execAdcDpImm dp imm s
  | .adcIndXIndY => Sys2Proof.Machine.execAdcIndXIndY s
  | .subw dp => Sys2Proof.Machine.execSubw dp s
  | .decDpX dp => Sys2Proof.Machine.execDecDpX dp s
  | .decA => Sys2Proof.Machine.execDecA s
  | .movXSp => Sys2Proof.Machine.execMovXSp s
  | .div => Sys2Proof.Machine.execDiv s
  | .xcn => Sys2Proof.Machine.execXcn s
  | .ei => Sys2Proof.Machine.execEi s
  | .tcall10 => Sys2Proof.Machine.execTcall10 s
  | .set1Bit5 dp => Sys2Proof.Machine.execSet1Bit5 dp s
  | .bbsBit5 dp rel => Sys2Proof.Machine.execBbsBit5 dp rel s
  | .sbcADp dp => Sys2Proof.Machine.execSbcADp dp s
  | .sbcAAbs m => Sys2Proof.Machine.execSbcAAbs m s
  | .sbcAIndX => Sys2Proof.Machine.execSbcAIndX s
  | .sbcADpXInd dp => Sys2Proof.Machine.execSbcADpXInd dp s
  | .sbcAImm imm => Sys2Proof.Machine.execSbcAImm imm s
  | .sbcDdSs dd ss => Sys2Proof.Machine.execSbcDdSs dd ss s
  | .mov1CMb m bit => Sys2Proof.Machine.execMov1CMb m bit s
  | .incDp dp => Sys2Proof.Machine.execIncDp dp s
  | .incAbs m => Sys2Proof.Machine.execIncAbs m s
  | .cmpYImm imm => Sys2Proof.Machine.execCmpYImm imm s
  | .popA => Sys2Proof.Machine.execPopA s
  | .movIndXIncFromA => Sys2Proof.Machine.execMovIndXIncFromA s
  | .bcs rel => Sys2Proof.Machine.execBcs rel s
  | .tcall11 => Sys2Proof.Machine.execTcall11 s
  | .clr1Bit5 dp => Sys2Proof.Machine.execClr1Bit5 dp s
  | .bbcBit5 dp rel => Sys2Proof.Machine.execBbcBit5 dp rel s
  | .sbcADpX dp => Sys2Proof.Machine.execSbcADpX dp s
  | .sbcAAbsX m => Sys2Proof.Machine.execSbcAAbsX m s
  | .sbcAAbsY m => Sys2Proof.Machine.execSbcAAbsY m s
  | .sbcADpIndY dp => Sys2Proof.Machine.execSbcADpIndY dp s
  | .sbcDpImm dp imm => Sys2Proof.Machine.execSbcDpImm dp imm s
  | .sbcIndXIndY => Sys2Proof.Machine.execSbcIndXIndY s
  | .movwYaDp dp => Sys2Proof.Machine.execMovwYaDp dp s
  | .incDpX dp => Sys2Proof.Machine.execIncDpX dp s
  | .incA => Sys2Proof.Machine.execIncA s
  | .movSpX => Sys2Proof.Machine.execMovSpX s
  | .das => Sys2Proof.Machine.execDas s
  | .movAIndXInc => Sys2Proof.Machine.execMovAIndXInc s
  | .di => Sys2Proof.Machine.execDi s
  | .tcall12 => Sys2Proof.Machine.execTcall12 s
  | .set1Bit6 dp => Sys2Proof.Machine.execSet1Bit6 dp s
  | .bbsBit6 dp rel => Sys2Proof.Machine.execBbsBit6 dp rel s
  | .movDpFromA dp => Sys2Proof.Machine.execMovDpFromA dp s
  | .movAbsFromA m => Sys2Proof.Machine.execMovAbsFromA m s
  | .movIndXFromA => Sys2Proof.Machine.execMovIndXFromA s
  | .movDpXIndFromA dp => Sys2Proof.Machine.execMovDpXIndFromA dp s
  | .cmpXImm imm => Sys2Proof.Machine.execCmpXImm imm s
  | .movAbsFromX m => Sys2Proof.Machine.execMovAbsFromX m s
  | .mov1MbFromC m bit => Sys2Proof.Machine.execMov1MbFromC m bit s
  | .movDpFromY dp => Sys2Proof.Machine.execMovDpFromY dp s
  | .movAbsFromY m => Sys2Proof.Machine.execMovAbsFromY m s
  | .movXImm imm => Sys2Proof.Machine.execMovXImm imm s
  | .popX => Sys2Proof.Machine.execPopX s
  | .mul => Sys2Proof.Machine.execMul s
  | .bne rel => Sys2Proof.Machine.execBne rel s
  | .tcall13 => Sys2Proof.Machine.execTcall13 s
  | .clr1Bit6 dp => Sys2Proof.Machine.execClr1Bit6 dp s
  | .bbcBit6 dp rel => Sys2Proof.Machine.execBbcBit6 dp rel s
  | .movDpXFromA dp => Sys2Proof.Machine.execMovDpXFromA dp s
  | .movAbsXFromA m => Sys2Proof.Machine.execMovAbsXFromA m s
  | .movAbsYFromA m => Sys2Proof.Machine.execMovAbsYFromA m s
  | .movDpIndYFromA dp => Sys2Proof.Machine.execMovDpIndYFromA dp s
  | .movDpFromX dp => Sys2Proof.Machine.execMovDpFromX dp s
  | .movDpYFromX dp => Sys2Proof.Machine.execMovDpYFromX dp s
  | .movwDpYa dp => Sys2Proof.Machine.execMovwDpYa dp s
  | .movDpXFromY dp => Sys2Proof.Machine.execMovDpXFromY dp s
  | .decY => Sys2Proof.Machine.execDecY s
  | .movAY => Sys2Proof.Machine.execMovAY s
  | .cbneDpX dp rel => Sys2Proof.Machine.execCbneDpX dp rel s
  | .daa => Sys2Proof.Machine.execDaa s
  | .clrv => Sys2Proof.Machine.execClrv s
  | .tcall14 => Sys2Proof.Machine.execTcall14 s
  | .set1Bit7 dp => Sys2Proof.Machine.execSet1Bit7 dp s
  | .bbsBit7 dp rel => Sys2Proof.Machine.execBbsBit7 dp rel s
  | .movADp dp => Sys2Proof.Machine.execMovADp dp s
  | .movAAbs m => Sys2Proof.Machine.execMovAAbs m s
  | .movAIndX => Sys2Proof.Machine.execMovAIndX s
  | .movADpXInd dp => Sys2Proof.Machine.execMovADpXInd dp s
  | .movAImm imm => Sys2Proof.Machine.execMovAImm imm s
  | .movXAbs m => Sys2Proof.Machine.execMovXAbs m s
  | .not1 m bit => Sys2Proof.Machine.execNot1 m bit s
  | .movYDp dp => Sys2Proof.Machine.execMovYDp dp s
  | .movYAbs m => Sys2Proof.Machine.execMovYAbs m s
  | .notc => Sys2Proof.Machine.execNotc s
  | .popY => Sys2Proof.Machine.execPopY s
  | .sleep => Sys2Proof.Machine.execSleep s
  | .beq rel => Sys2Proof.Machine.execBeq rel s
  | .tcall15 => Sys2Proof.Machine.execTcall15 s
  | .clr1Bit7 dp => Sys2Proof.Machine.execClr1Bit7 dp s
  | .bbcBit7 dp rel => Sys2Proof.Machine.execBbcBit7 dp rel s
  | .movADpX dp => Sys2Proof.Machine.execMovADpX dp s
  | .movAAbsX m => Sys2Proof.Machine.execMovAAbsX m s
  | .movAAbsY m => Sys2Proof.Machine.execMovAAbsY m s
  | .movADpIndY dp => Sys2Proof.Machine.execMovADpIndY dp s
  | .movXDp dp => Sys2Proof.Machine.execMovXDp dp s
  | .movXDpY dp => Sys2Proof.Machine.execMovXDpY dp s
  | .movDdSs dd ss => Sys2Proof.Machine.execMovDdSs dd ss s
  | .movYDpX dp => Sys2Proof.Machine.execMovYDpX dp s
  | .incY => Sys2Proof.Machine.execIncY s
  | .movYA => Sys2Proof.Machine.execMovYA s
  | .dbnzY rel => Sys2Proof.Machine.execDbnzY rel s
  | .stop => Sys2Proof.Machine.execStop s

end Sys2Proof.Machine
end

