-- ==== Sys2Proof/Machine/DspVoice.lean ====
section
/-! DEFINITION. Machine/DspVoice.lean: the voice pipeline of the DSP (63_dsp_voice.md): the seven parts of a voice step
in the order of R700, on exact integers (R9, D45). The DSP reads RAM and the register bank directly (R129). -/

namespace Sys2Proof.Machine

/-! ### Integer helpers (R9) -/

/-- R9: the arithmetic shift right `v >> n = floor(v / 2^n)`. -/
def sar (v : Int) (n : Nat) : Int := v / 2 ^ n

/-- R776: `clamp16`. -/
def clamp16 (v : Int) : Int := max (-32768) (min 32767 v)

/-- R753: a value wrapped to 16 bits signed. -/
def wrap16 (v : Int) : Int := (v + 0x8000) % 0x10000 - 0x8000

/-- R751: `sext_4(nibble)`. -/
def sext4 (n : Nat) : Int := if n % 16 < 8 then (n % 16 : Nat) else (n % 16 : Nat) - 16

/-! ### Registers the pipeline reads -/

/-- R662: the register `dsp_regs[0x10 * v + k]`. -/
def State.voiceReg (s : State) (v : Fin 8) (k : Fin 16) : Byte :=
  s.dspRegs[16 * v.val + k.val]'(by omega)

/-- R664: the 14-bit pitch of voice `v`. -/
def State.voicePitch (s : State) (v : Fin 8) : Nat :=
  (Word.mk (s.voiceReg v 3) (s.voiceReg v 2) &&& 0x3FFF).toNat

/-- A little-endian word read directly from RAM, its address wrapping (R129, R672). -/
def State.peekWord (s : State) (p : Word) : Word := Word.mk (s.peek (p + 1)) (s.peek p)

/-- R672: the address `e(n)` of the directory entry of the voice's source. -/
def State.directoryEntry (s : State) (v : Fin 8) : Word :=
  Word.mk (s.dspReg 0x5D) 0 + (s.voiceReg v 4).setWidth 16 * 4

/-- R672: `start(n)` for the voice's source. -/
def State.sampleStart (s : State) (v : Fin 8) : Word := s.peekWord (s.directoryEntry v)

/-- R672: `loop(n)` for the voice's source. -/
def State.sampleLoop (s : State) (v : Fin 8) : Word := s.peekWord (s.directoryEntry v + 2)

/-- A ring slot; the pipeline uses slots 0..22 only (R713, R752). -/
def Voice.slot (vo : Voice) (i : Nat) : Int := vo.ring[i]?.getD 0

/-! ### Part 2: the key-on delay -/

/-- What parts 1 and 2 hand on: the voice, the block header and the pitch of this sample (R701, R702). -/
structure VoiceRun where
  vo : Voice
  hdr : Byte
  pitch : Nat
  deriving DecidableEq, Repr

/-- R701: part 1. -/
def voiceFetch (s : State) (v : Fin 8) : VoiceRun :=
  let vo := s.voices[v]
  { vo := vo, hdr := s.peek vo.brrAddr, pitch := s.voicePitch v }

/-- R702: part 2. -/
def keyOnDelay (s : State) (v : Fin 8) (r : VoiceRun) : VoiceRun :=
  if r.vo.konDelay = 0 then r
  else
    let d := r.vo.konDelay - 1
    let vo :=
      if d = 4 then
        { r.vo with konDelay := d, brrAddr := s.sampleStart v, brrOff := 0, wpos := 0 }
      else { r.vo with konDelay := d }
    { vo := { vo with env := 0, pend := 0, interp := if d % 4 ≠ 0 then 0x4000 else 0 }
      hdr := if d = 4 then 0 else r.hdr
      pitch := 0 }

/-! ### Part 3: output -/

/-- R712: the unsupported feature selected for voice `v`, NOISE before ECHO before PITCHMOD. -/
def featureSelected (s : State) (v : Fin 8) : Option Feature :=
  if (s.dspReg 0x3D).getLsbD v then some .noise
  else if (s.dspReg 0x4D).getLsbD v then some .echo
  else if (s.dspReg 0x2D).getLsbD v then some .pitchmod
  else none

/-- R713: the interpolated sample, with the weights GAUSS of the setting. -/
def interpolate (p : Params) (vo : Voice) : Int :=
  let o := vo.interp / 16 % 256
  let i := vo.wpos + vo.interp / 4096
  sar (p.weight (255 - o) * vo.slot i + p.weight (511 - o) * vo.slot (i + 1) +
    p.weight (256 + o) * vo.slot (i + 2) + p.weight o * vo.slot (i + 3)) 11

/-- R714: the voice's contribution to the mix. -/
def voiceMix (s : State) (v : Fin 8) (vo : Voice) : Int × Int :=
  let out := sar (interpolate s.params vo * vo.env) 11
  (out * (s.voiceReg v 0).toInt, out * (s.voiceReg v 1).toInt)

/-- R710-R714: part 3. -/
def voiceOutput (s : State) (v : Fin 8) (vo : Voice) : Except Feature (Int × Int) :=
  if vo.env = 0 then .ok (0, 0)
  else
    match featureSelected s v with
    | some f => .error f
    | none => .ok (voiceMix s v vo)

/-! ### Part 4: key-on and key-off -/

/-- R715: part 4, on latch samples only. -/
def keyOnOff (s : State) (v : Fin 8) (vo : Voice) : Voice :=
  if s.everyOther then
    let vo1 := if s.kofLatch.getLsbD v then { vo with mode := .release } else vo
    if s.konLatch.getLsbD v then { vo1 with konDelay := 5, mode := .attack } else vo1
  else vo

/-! ### Part 5: the envelope -/

/-- R722: the RELEASE step. -/
def releaseStep (vo : Voice) : Voice :=
  if vo.env ≤ 8 then { vo with env := 0, pend := 0, brrAddr := 0, brrOff := 0 }
  else { vo with env := vo.env - 8, pend := vo.env - 8 }

/-- R723, R724: the rate and the new amplitude of ATTACK, DECAY and SUSTAIN. -/
def envelopeTarget (a1 a2 : Byte) (vo : Voice) : Nat × Int :=
  let decayed : Int := (vo.env : Int) - 1 - sar ((vo.env : Int) - 1) 8
  match vo.mode with
  | .attack =>
    let rate := (a1 &&& 0x0F).toNat * 2 + 1
    (rate, (vo.env : Int) + if rate < 31 then 0x20 else 0x400)
  | .decay => ((a1 >>> 4 &&& 0x07).toNat * 2 + 16, decayed)
  | .sustain | .release => ((a2 &&& 0x1F).toNat, decayed)

/-- R723-R728: the step of a voice in ATTACK, DECAY or SUSTAIN, with rate counter `rc` and RATE_FIRES of the setting. -/
def adsrStep (p : Params) (a1 a2 : Byte) (rc : Nat) (vo : Voice) : Voice :=
  let (rate, e) := envelopeTarget a1 a2 vo
  let mode1 := if vo.mode = .decay ∧ sar e 8 = (a2 >>> 5).toNat then .sustain else vo.mode
  let out := e > 0x7FF ∨ e < 0
  let e1 := if out then (if e < 0 then 0 else 0x7FF) else e
  let mode2 := if out ∧ mode1 = .attack then .decay else mode1
  { vo with
    mode := mode2
    pend := e1.toNat
    env := if p.rateFires rate rc then e1.toNat else vo.env }

/-- R720-R728: part 5; the error is the GAIN fault of R721. -/
def envelopeStep (s : State) (v : Fin 8) (vo : Voice) : Except Feature Voice :=
  if vo.konDelay ≠ 0 then .ok vo
  else if vo.mode = .release then .ok (releaseStep vo)
  else if (s.voiceReg v 5).getLsbD 7 then
    .ok (adsrStep s.params (s.voiceReg v 5) (s.voiceReg v 6) s.rateCounter vo)
  else .error .gain

/-! ### Part 7: BRR decoding -/

/-- R751: the nibble's base value. -/
def brrBase (shift : Nat) (n : Int) : Int :=
  if shift ≤ 12 then sar (n * 2 ^ shift) 1 else if n < 0 then -2048 else 0

/-- R752: what the filter adds, from `p1` and `p2`. -/
def brrFilter (filter : Nat) (p1 p2 : Int) : Int :=
  match filter with
  | 0 => 0
  | 1 => sar p1 1 + sar (-p1) 5
  | 2 => p1 - p2 + sar p2 4 + sar (p1 * -3) 6
  | _ => p1 - p2 + sar (p1 * -13) 7 + sar (p2 * 3) 4

/-- R751-R753: one nibble decoded and stored in the ring, twice. -/
def brrNibble (hdr : Byte) (nibble : Nat) (vo : Voice) : Voice :=
  let p1 := vo.slot (vo.wpos + 11)
  let p2 := sar (vo.slot (vo.wpos + 10)) 1
  let s := brrBase (hdr >>> 4).toNat (sext4 nibble) + brrFilter (hdr >>> 2 &&& 3).toNat p1 p2
  let d := wrap16 (clamp16 s * 2)
  { vo with
    ring := (vo.ring.setIfInBounds vo.wpos d).setIfInBounds (vo.wpos + 12) d
    wpos := vo.wpos + 1 }

/-- R750, R754: the four nibbles of two data bytes, the high nibble of each byte first. -/
def brrDecode (hdr d1 d2 : Byte) (vo : Voice) : Voice :=
  let vo1 := brrNibble hdr (d1.toNat % 16) (brrNibble hdr (d1.toNat / 16) vo)
  let vo2 := brrNibble hdr (d2.toNat % 16) (brrNibble hdr (d2.toNat / 16) vo1)
  if vo2.wpos ≥ 12 then { vo2 with wpos := 0 } else vo2

/-- R755, R756: the move to the next two data bytes, or past the block's end. -/
def brrAdvance (s : State) (v : Fin 8) (hdr : Byte) (vo : Voice) : Voice :=
  let off := vo.brrOff + 2
  if off = 8 then
    if hdr.getLsbD 0 then
      if hdr.getLsbD 1 then { vo with brrAddr := s.sampleLoop v, brrOff := 0 }
      else { vo with mode := .release, env := 0, pend := 0, brrAddr := 0, brrOff := 0 }
    else { vo with brrAddr := vo.brrAddr + 9, brrOff := 0 }
  else { vo with brrOff := off }

/-- R750-R755: part 7, one block-step. -/
def blockStep (s : State) (v : Fin 8) (hdr : Byte) (vo : Voice) : Voice :=
  let p := vo.brrAddr + BitVec.ofNat 16 vo.brrOff
  brrAdvance s v hdr (brrDecode hdr (s.peek (p + 1)) (s.peek (p + 2)) vo)

/-- R742: part 6 and the test that lets part 7 run. -/
def accumulate (s : State) (v : Fin 8) (r : VoiceRun) : Voice :=
  let old := r.vo.interp
  let vo := { r.vo with interp := min (old % 0x4000 + r.pitch) 0x7FFF }
  if old ≥ 0x4000 then blockStep s v r.hdr vo else vo

/-! ### The voice step -/

/-- How a voice step ends: with its voice and its pair `(l, r)`, or with an unsupported feature and the voice as it is
at that moment (R604, log 6). -/
inductive VoiceResult where
  | done (vo : Voice) (l r : Int)
  | unsupported (feature : Feature) (vo : Voice)
  deriving DecidableEq, Repr

/-- R700: `voice_step(v)`. Part 7 decodes at the address part 5 leaves, with the header part 1 read: after a RELEASE teardown
(R722) in the same sample, bytes 0x0001 and 0x0002 with the header of the block the voice was in, where R759 infers that a
block-step always has the header of its own block. DEDUCED (log 15). -/
def voiceStep (s : State) (v : Fin 8) : VoiceResult :=
  let r := keyOnDelay s v (voiceFetch s v)
  match voiceOutput s v r.vo with
  | .error f => .unsupported f r.vo
  | .ok (l, rr) =>
    let vo1 := keyOnOff s v r.vo
    match envelopeStep s v vo1 with
    | .error f => .unsupported f vo1
    | .ok vo2 => .done (accumulate s v { r with vo := vo2 }) l rr

end Sys2Proof.Machine
end

