-- ==== Sys2Proof/Machine/DspSample.lean ====
section
/-! DEFINITION. Machine/DspSample.lean: parts 2-5 of a DSP sample (64_dsp_sample.md): the alternating flag and the
latch, the rate counter, the eight voices and the master mix. -/

namespace Sys2Proof.Machine

/-- R772, R773: the flag flips; on a latch sample KON and KOF are captured and cleared in the bank. -/
def latchKeys (s : State) : State :=
  if s.everyOther then { s with everyOther := false }
  else
    let s1 := { s with everyOther := true, konLatch := s.dspReg 0x4C, kofLatch := s.dspReg 0x5C }
    (s1.setDspReg 0x4C 0).setDspReg 0x5C 0

/-- R774: the rate counter steps down, wrapping. -/
def stepRateCounter (s : State) : State :=
  { s with rateCounter := if s.rateCounter = 0 then rateCounterTop else s.rateCounter - 1 }

/-- R776: one channel of the master mix. -/
def masterMix (sum : Int) (mvol : Byte) : BitVec 16 := BitVec.ofInt 16 (clamp16 (sar (sum * mvol.toInt) 14))

/-- Voice `v` of the machine replaced. -/
def State.setVoice (s : State) (v : Fin 8) (vo : Voice) : State := { s with voices := s.voices.set v vo }

/-- R14, R604: a raised fault, with the machine frozen as it is. -/
def FaultRecord.raise (r : FaultRecord) (s : State) : Result :=
  match r with
  | .unknownOpcode op addr => .fault (.unknownOpcode op addr { s with fault := some r })
  | .unsupportedFeature f v => .fault (.unsupportedFeature f v { s with fault := some r })

/-- R776, R770: the mix of the eight pairs ends the call and returns the frame. -/
def finishSample (lsum rsum : Int) (s : State) : State :=
  { s with
    frame := some (masterMix lsum (s.dspReg 0x0C), masterMix rsum (s.dspReg 0x1C))
    phase := .idle }

/-- R775: the voices of the list in order, the sums of their pairs so far, then the mix; the first unsupported feature
ends the sample (R770, R606). -/
def runVoices : List (Fin 8) → Int → Int → State → Result
  | [], lsum, rsum, s => .next (finishSample lsum rsum s)
  | v :: vs, lsum, rsum, s =>
    match voiceStep s v with
    | .done vo l r => runVoices vs (lsum + l) (rsum + r) (s.setVoice v vo)
    | .unsupported f vo => (FaultRecord.unsupportedFeature f v).raise (s.setVoice v vo)

/-- R775: index order. -/
def voiceOrder : List (Fin 8) := [0, 1, 2, 3, 4, 5, 6, 7]

/-- R770: parts 2-5 of `produce_frame`. -/
def dspSample (s : State) : Result := runVoices voiceOrder 0 0 (stepRateCounter (latchKeys s))

end Sys2Proof.Machine
end

