-- ==== Sys2Proof/Machine/Loop.lean ====
section
/-! DEFINITION. Machine/Loop.lean: the instruction loop `run` (R170-R178, R181), one CPU step at a time. -/

namespace Sys2Proof.Machine

/-- R182: `fetch(a)`. -/
def fetch (a : Word) (s : State) : Byte × State :=
  if s.params.fetchSideEffects then memRead a s else (s.peek a, s)

/-- R170, R770: a `produce_frame` call opens: the target moves one sample period on. -/
def openCall (s : State) : State :=
  { s with target := s.target + samplePeriod, phase := .cpu }

/-- R170, R770: `run` returns; parts 2-5 of the sample come next. -/
def endRun (s : State) : State := { s with phase := .dsp }

/-- R173: the cost of `op` is committed. -/
def commitCost (op : Byte) (s : State) : State := { s with time := s.time + opCycles op }

/-- R174, R175: the operand bytes. The byte after the opcode is always fetched; PC ends after the instruction. -/
def fetchOperands (op : Byte) (s : State) : Byte × Byte × State :=
  let (b1, s1) := fetch (s.pc + 1) s
  match (opInfo op).layout with
  | .one _ => (b1, 0, { s1 with pc := s1.pc + 1 })
  | .two _ => (b1, 0, { s1 with pc := s1.pc + 2 })
  | .three _ =>
    let (b2, s2) := fetch (s1.pc + 2) s1
    (b1, b2, { s2 with pc := s2.pc + 3 })

/-- R173-R177: an instruction that fits: the commit, the operand fetches, the IMPLEMENTED check and the body. -/
def runInstr (op : Byte) (opaddr : Word) (s : State) : Result :=
  let (b1, b2, s1) := fetchOperands op (commitCost op s)
  if s1.params.implements op then exec ((opInfo op).layout.build b1 b2) s1
  else (FaultRecord.unknownOpcode op opaddr).raise s1

/-- R170-R177, R600: one round of the loop: `run` ends at the target, when the CPU is halted (R181) or at a deferral
(R172); otherwise an instruction is executed or faults. -/
def cpuStep (s : State) : Result :=
  if s.halted then .next (endRun { s with time := s.target })
  else if s.time < s.target then
    let (op, s1) := fetch s.pc s
    if s1.time + opCycles op > s1.target then .next (endRun s1) else runInstr op s.pc s1
  else .next (endRun s)

/-- R770: what the phase makes the machine do next. -/
def advance (s : State) : Result :=
  match s.phase with
  | .idle => cpuStep (openCall s)
  | .cpu => cpuStep s
  | .dsp => dspSample s

/-- The bytes of the opcode table's word `w` of `nbits` bits stored at PC (R151), the longest instruction. -/
def storeAtPc (nbits w : Nat) (s : State) : State :=
  match tableBytes nbits w with
  | [b0, b1, b2] => ((s.poke s.pc b0).poke (s.pc + 1) b1).poke (s.pc + 2) b2
  | _ => s

/-- A machine whose next step begins a `produce_frame` call and runs the instruction at PC: no fault, not halted, no call
open, and no part of the target still to run. A machine after reset is ready as it is. -/
def readyToRun (s : State) : State :=
  { s with fault := none, halted := false, phase := .idle, target := max s.target s.time }

end Sys2Proof.Machine
end

