-- ==== Sys2Proof/Machine/Step.lean ====
section
/-! DEFINITION. Machine/Step.lean: the step function. -/

namespace Sys2Proof.Machine

/-- One step: a CPU step, the return of `run`, or a DSP sample (R600, R770). A faulted machine raises its fault again,
without change (R604). -/
def step (s : State) : Host.Outcome State Fault Refusal :=
  match s.fault with
  | some r => r.raise s
  | none => advance s

/-- The machine with an instruction of the opcode table placed where `step` fetches next, and ready to run it (log 7).
A PC inside 0x00F3 or 0x00FD-0x00FF, whose bytes a fetch refreshes (R101, R182), shows the refreshed byte instead. -/
def State.withFetchWord (s : State) (nbits w : Nat) : State := readyToRun (storeAtPc nbits w s)

end Sys2Proof.Machine
end

