-- ==== Sys2Proof/Machine/Frame.lean ====
section
/-! DEFINITION. Machine/Frame.lean: `produce_frame()` (R770) as steps of the machine. -/

namespace Sys2Proof.Machine

/-- At most `fuel` steps, until no call is open. -/
def stepsToIdle : Nat → State → Result
  | 0, s => .next s
  | k + 1, s =>
    match step s with
    | .next t => if t.phase = .idle then .next t else stepsToIdle k t
    | r => r

/-- R770: one call of `produce_frame()`. A sample is at most 43 cycles of CPU time (R771) and every instruction nets at
least 2 (R170), so 32 steps are more than a call takes. -/
def produceFrame (s : State) : Result := stepsToIdle 32 s

end Sys2Proof.Machine
end

