-- ==== Sys2Proof/Machine/Load.lean ====
section
/-! DEFINITION. Machine/Load.lean: `load(snapshot)`, the only reset of this core (70_reset_and_hazards.md). -/

namespace Sys2Proof.Machine

/-- R801: the length a snapshot must have. -/
def snapshotLength : Nat := 0x10180

/-- R807: timer i of a RAM image. -/
def Timer.ofRam (ram : List Host.Cell) (i : Fin 3) : Timer where
  enabled := (Memory.read ram 0x00F1).getLsbD i
  divisor := Memory.read ram (0x00FA + i)
  counter := (Memory.read ram (0x00FD + i)).toNat % 16
  last := 0

/-- R803-R809, R56: the machine a snapshot of the right form builds, with the parameters `p` (R8). -/
def State.ofSnapshot (p : Params) (snap : List Byte) : State :=
  let byte (i : Nat) : Byte := snap.getD i 0
  let ram := Memory.ofBytes 0 ((snap.drop 0x100).take 0x10000)
  let s : State :=
    { State.reset with
      pc := Word.mk (byte 38) (byte 37)
      a := byte 39
      x := byte 40
      y := byte 41
      sp := byte 43
      ram := ram
      dspRegs := Vector.ofFn fun i => byte (0x10100 + i.val)
      timers := Vector.ofFn (Timer.ofRam ram)
      params := p }
  s.unpackPsw (byte 42)

/-- R802: `load(snapshot)`: the length, then the parameter SNAPSHOT_SIGNATURE, then the whole state. -/
def loadSnapshot (p : Params) (snap : List Byte) : Result :=
  if snap.length < snapshotLength then .fault (.snapshotRejected .tooShort)
  else if snap.take 37 ≠ p.signature.toList then .fault (.snapshotRejected .badSignature)
  else .next (State.ofSnapshot p snap)

end Sys2Proof.Machine
end

