-- ==== Sys2Proof/Safety.lean ====
section
/-! DEFINITION. Safety.lean: the terms in which claims are stated: what a read or a write of memory may change, what an
instruction's body leaves alone, the invariant of the machine, and a table of the 256 instruction forms in the words of
their rules (bytes, cycles, effect), written from the instruction rules and not from the decoder. -/

namespace Sys2Proof.Machine

/-! ### Frames -/

/-- R101, R127: the addresses whose RAM byte a read rewrites, 0x00F3 and 0x00FD-0x00FF. -/
def refreshed (a : Word) : Bool := a == 0x00F3 || decide (0x00FD ≤ a ∧ a ≤ 0x00FF)

/-- From `s` to `t` memory was read only: every byte but a refreshed one is as it was, the DSP bank is as it was, and no
timer has another enable or divisor (R101). -/
structure ReadOnly (s t : State) : Prop where
  bytes : ∀ b, refreshed b = false → t.peek b = s.peek b
  bank : t.dspRegs = s.dspRegs
  timers : ∀ i : Fin 3, t.timers[i].enabled = s.timers[i].enabled ∧ t.timers[i].divisor = s.timers[i].divisor

/-- RAM, the DSP bank and the timers are equal. -/
structure SameDevices (s t : State) : Prop where
  bytes : ∀ b, t.peek b = s.peek b
  bank : t.dspRegs = s.dspRegs
  timers : t.timers = s.timers

/-- From `s` to `t` the one byte `v` was stored at `ea`, with the effect R102 gives that store on the timers and on the
DSP bank. -/
structure Stored (ea : Word) (v : Byte) (s t : State) : Prop where
  bytes : ∀ b, t.peek b = if b = ea then v else s.peek b
  bank : t.dspRegs = (memWrite ea v s).dspRegs
  timers : t.timers = (memWrite ea v s).timers

/-- From `s` to `t` two bytes were stored, `v` at `ea` and then `w` at `ea2`. -/
structure StoredTwo (ea : Word) (v : Byte) (ea2 : Word) (w : Byte) (s t : State) : Prop where
  bytes : ∀ b, t.peek b = if b = ea2 then w else if b = ea then v else s.peek b
  bank : t.dspRegs = (memWrite ea2 w (memWrite ea v s)).dspRegs
  timers : t.timers = (memWrite ea2 w (memWrite ea v s)).timers

/-- What no instruction's body changes: the target, the fault, the DSP's own state, the parameters, and the model's own
`phase` and `frame`. -/
structure SameMachine (s t : State) : Prop where
  target : t.target = s.target
  fault : t.fault = s.fault
  everyOther : t.everyOther = s.everyOther
  rateCounter : t.rateCounter = s.rateCounter
  konLatch : t.konLatch = s.konLatch
  kofLatch : t.kofLatch = s.kofLatch
  voices : t.voices = s.voices
  phase : t.phase = s.phase
  frame : t.frame = s.frame
  params : t.params = s.params

/-- A, X and Y are equal. -/
def SameRegs (s t : State) : Prop := ∀ r, t.reg r = s.reg r

/-- PC, the time and `halted` are equal, and all of `SameMachine`. -/
structure Steady (s t : State) : Prop where
  pc : t.pc = s.pc
  time : t.time = s.time
  halted : t.halted = s.halted
  machine : SameMachine s t

/-! ### The invariant -/

/-- R53: the ranges of a voice between samples; the ring holds its 12 samples twice. -/
structure Voice.Ok (vo : Voice) : Prop where
  konDelay : vo.konDelay ≤ 5
  wpos : vo.wpos = 0 ∨ vo.wpos = 4 ∨ vo.wpos = 8
  brrOff : vo.brrOff = 0 ∨ vo.brrOff = 2 ∨ vo.brrOff = 4 ∨ vo.brrOff = 6
  env : vo.env ≤ 0x7FF
  pend : vo.pend ≤ 0x7FF
  interp : vo.interp ≤ 0x7FFF
  mirror : ∀ i, i < 12 → vo.slot (i + 12) = vo.slot i
  range : ∀ i, -32768 ≤ vo.slot i ∧ vo.slot i ≤ 32767

/-- R35, R38: the flags are legal: never N and Z together, and B, H and I constant 0 under PSW_HIB_POLICY = zero. -/
def State.flagsOk (s : State) : Prop :=
  ¬ (s.flags.n = true ∧ s.flags.z = true) ∧
    (s.params.hibPolicy = .zero → s.flags.b = false ∧ s.flags.h = false ∧ s.flags.i = false)

/-- R771, R781: the time is never past the target, and at most 11 cycles behind it while no run is in progress; a sample
period more inside a run. -/
def State.timeOk (s : State) : Prop :=
  s.time ≤ s.target ∧ s.target ≤ s.time + (if s.phase = .cpu then 43 else 11)

/-- The invariant of the machine. -/
structure State.Inv (s : State) : Prop where
  ram : Memory.wf s.ram
  flags : s.flagsOk
  counters : ∀ i : Fin 3, s.timers[i].counter ≤ 15
  rateCounter : s.rateCounter ≤ 30719
  voices : ∀ v : Fin 8, s.voices[v].Ok
  time : s.timeOk

/-! ### The instruction forms -/

/-- One instruction form: the instruction, its opcode and operand bytes, its cycles (taken, for a branch), whether it is in the
default IMPLEMENTED set, and what the rules say of its effect. `b1` and `b2` are the operand bytes (R151). -/
structure Form (α : Type) where
  instr : Instr
  opcode : Byte
  operands : List Byte
  cycles : Nat
  byDefault : Bool
  shape : α

/-- The form's bytes decode to its instruction; its length, its cost and its place in the default IMPLEMENTED set are the
opcode's. -/
structure Form.Encoded {α : Type} (f : Form α) : Prop where
  bytes : decode (f.opcode :: f.operands) = .ok (f.instr, [])
  length : opLength f.opcode = f.operands.length + 1
  cycles : opCycles f.opcode = f.cycles
  byDefault : Params.standard.implements f.opcode = f.byDefault

/-- A register loaded from a source; `inc` for the form that increments X after the access. -/
structure LoadShape where
  reg : Reg8
  src : Source
  inc : Bool

/-- A register stored; `inc` for the form that increments X after the access. -/
structure StoreShape where
  dst : Mode
  reg : Reg8
  inc : Bool

/-- A register written with a value of the registers. -/
structure MoveShape where
  reg : Reg8
  value : State → Byte

/-- A direct-page byte written from a source. -/
structure MoveByteShape where
  offset : Byte
  src : Source

/-- Where an operation has its first operand and its result. -/
inductive Place where
  | reg (r : Reg8)
  | mem (m : Mode)

/-- An 8-bit ALU form: its first operand, which is also its destination, and its source. -/
structure AluShape where
  dst : Place
  src : Source

/-- A one-operand form. -/
structure RmwShape where
  op : RmwOp
  dst : Place

/-- The three 16-bit arithmetic forms. -/
inductive WordKind where
  | add
  | subtract
  | compare

/-- A bit number and the value tested for or written. -/
structure BitShape where
  bit : Fin 8
  value : Bool

/-- The target of a jump: an address, or the word at an address plus X. -/
inductive JumpTarget where
  | direct (a : Word)
  | indirectX (a : Word)

/-- A jump, and whether it pushes PC. -/
structure JumpShape where
  target : JumpTarget
  call : Bool

/-- R200-R217: the loads. -/
def loadForms (b1 b2 : Byte) : List (Form LoadShape) :=
  [ ⟨(.movAImm b1), 0xE8, [b1], 2, true, ⟨.a, (.imm b1), false⟩⟩,
    ⟨.movAIndX, 0xE6, [], 3, true, ⟨.a, (.mem .indX), false⟩⟩,
    ⟨.movAIndXInc, 0xBF, [], 4, true, ⟨.a, (.mem .indX), true⟩⟩,
    ⟨(.movADp b1), 0xE4, [b1], 3, true, ⟨.a, (.mem (.dp b1)), false⟩⟩,
    ⟨(.movADpX b1), 0xF4, [b1], 4, true, ⟨.a, (.mem (.dpX b1)), false⟩⟩,
    ⟨(.movAAbs (Word.mk b2 b1)), 0xE5, [b1, b2], 4, true, ⟨.a, (.mem (.abs (Word.mk b2 b1))), false⟩⟩,
    ⟨(.movAAbsX (Word.mk b2 b1)), 0xF5, [b1, b2], 5, true, ⟨.a, (.mem (.absX (Word.mk b2 b1))), false⟩⟩,
    ⟨(.movAAbsY (Word.mk b2 b1)), 0xF6, [b1, b2], 5, true, ⟨.a, (.mem (.absY (Word.mk b2 b1))), false⟩⟩,
    ⟨(.movADpXInd b1), 0xE7, [b1], 6, true, ⟨.a, (.mem (.dpXInd b1)), false⟩⟩,
    ⟨(.movADpIndY b1), 0xF7, [b1], 6, true, ⟨.a, (.mem (.dpIndY b1)), false⟩⟩,
    ⟨(.movXImm b1), 0xCD, [b1], 2, true, ⟨.x, (.imm b1), false⟩⟩,
    ⟨(.movXDp b1), 0xF8, [b1], 3, true, ⟨.x, (.mem (.dp b1)), false⟩⟩,
    ⟨(.movXDpY b1), 0xF9, [b1], 4, true, ⟨.x, (.mem (.dpY b1)), false⟩⟩,
    ⟨(.movXAbs (Word.mk b2 b1)), 0xE9, [b1, b2], 4, true, ⟨.x, (.mem (.abs (Word.mk b2 b1))), false⟩⟩,
    ⟨(.movYImm b1), 0x8D, [b1], 2, true, ⟨.y, (.imm b1), false⟩⟩,
    ⟨(.movYDp b1), 0xEB, [b1], 3, true, ⟨.y, (.mem (.dp b1)), false⟩⟩,
    ⟨(.movYDpX b1), 0xFB, [b1], 4, true, ⟨.y, (.mem (.dpX b1)), false⟩⟩,
    ⟨(.movYAbs (Word.mk b2 b1)), 0xEC, [b1, b2], 4, true, ⟨.y, (.mem (.abs (Word.mk b2 b1))), false⟩⟩ ]

/-- R218-R232: the stores of a register. -/
def storeForms (b1 b2 : Byte) : List (Form StoreShape) :=
  [ ⟨.movIndXFromA, 0xC6, [], 4, true, ⟨.indX, .a, false⟩⟩,
    ⟨.movIndXIncFromA, 0xAF, [], 4, true, ⟨.indX, .a, true⟩⟩,
    ⟨(.movDpFromA b1), 0xC4, [b1], 4, true, ⟨(.dp b1), .a, false⟩⟩,
    ⟨(.movDpXFromA b1), 0xD4, [b1], 5, true, ⟨(.dpX b1), .a, false⟩⟩,
    ⟨(.movAbsFromA (Word.mk b2 b1)), 0xC5, [b1, b2], 5, true, ⟨(.abs (Word.mk b2 b1)), .a, false⟩⟩,
    ⟨(.movAbsXFromA (Word.mk b2 b1)), 0xD5, [b1, b2], 6, true, ⟨(.absX (Word.mk b2 b1)), .a, false⟩⟩,
    ⟨(.movAbsYFromA (Word.mk b2 b1)), 0xD6, [b1, b2], 6, true, ⟨(.absY (Word.mk b2 b1)), .a, false⟩⟩,
    ⟨(.movDpXIndFromA b1), 0xC7, [b1], 7, true, ⟨(.dpXInd b1), .a, false⟩⟩,
    ⟨(.movDpIndYFromA b1), 0xD7, [b1], 7, true, ⟨(.dpIndY b1), .a, false⟩⟩,
    ⟨(.movDpFromX b1), 0xD8, [b1], 4, true, ⟨(.dp b1), .x, false⟩⟩,
    ⟨(.movDpYFromX b1), 0xD9, [b1], 5, true, ⟨(.dpY b1), .x, false⟩⟩,
    ⟨(.movAbsFromX (Word.mk b2 b1)), 0xC9, [b1, b2], 5, true, ⟨(.abs (Word.mk b2 b1)), .x, false⟩⟩,
    ⟨(.movDpFromY b1), 0xCB, [b1], 4, true, ⟨(.dp b1), .y, false⟩⟩,
    ⟨(.movDpXFromY b1), 0xDB, [b1], 5, true, ⟨(.dpX b1), .y, false⟩⟩,
    ⟨(.movAbsFromY (Word.mk b2 b1)), 0xCC, [b1, b2], 5, true, ⟨(.abs (Word.mk b2 b1)), .y, false⟩⟩ ]

/-- R233-R237, R384: a register written with a function of the registers. -/
def moveForms : List (Form MoveShape) :=
  [ ⟨.movAX, 0x7D, [], 2, true, ⟨.a, fun s => s.x⟩⟩,
    ⟨.movAY, 0xDD, [], 2, true, ⟨.a, fun s => s.y⟩⟩,
    ⟨.movXA, 0x5D, [], 2, true, ⟨.x, fun s => s.a⟩⟩,
    ⟨.movYA, 0xFD, [], 2, true, ⟨.y, fun s => s.a⟩⟩,
    ⟨.movXSp, 0x9D, [], 2, true, ⟨.x, fun s => s.sp⟩⟩,
    ⟨.xcn, 0x9F, [], 5, true, ⟨.a, fun s => s.a >>> 4 ||| s.a <<< 4⟩⟩ ]

/-- R238: `MOV SP, X`. -/
def moveToSpForm : List (Form Unit) :=
  [ ⟨.movSpX, 0xBD, [], 2, true, ()⟩ ]

/-- R239, R240: a direct-page byte written with a byte or an immediate. -/
def moveByteForms (b1 b2 : Byte) : List (Form MoveByteShape) :=
  [ ⟨(.movDdSs b2 b1), 0xFA, [b1, b2], 5, true, ⟨b2, .mem (.dp b1)⟩⟩,
    ⟨(.movDpImm b2 b1), 0x8F, [b1, b2], 5, true, ⟨b2, .imm b1⟩⟩ ]

/-- R266-R277: OR. -/
def orForms (b1 b2 : Byte) : List (Form AluShape) :=
  [ ⟨(.orADp b1), 0x04, [b1], 3, true, ⟨.reg .a, (.mem (.dp b1))⟩⟩,
    ⟨(.orADpX b1), 0x14, [b1], 4, true, ⟨.reg .a, (.mem (.dpX b1))⟩⟩,
    ⟨(.orAAbs (Word.mk b2 b1)), 0x05, [b1, b2], 4, true, ⟨.reg .a, (.mem (.abs (Word.mk b2 b1)))⟩⟩,
    ⟨(.orAAbsX (Word.mk b2 b1)), 0x15, [b1, b2], 5, true, ⟨.reg .a, (.mem (.absX (Word.mk b2 b1)))⟩⟩,
    ⟨.orAIndX, 0x06, [], 3, true, ⟨.reg .a, (.mem .indX)⟩⟩,
    ⟨(.orAAbsY (Word.mk b2 b1)), 0x16, [b1, b2], 5, true, ⟨.reg .a, (.mem (.absY (Word.mk b2 b1)))⟩⟩,
    ⟨(.orADpXInd b1), 0x07, [b1], 6, true, ⟨.reg .a, (.mem (.dpXInd b1))⟩⟩,
    ⟨(.orADpIndY b1), 0x17, [b1], 6, true, ⟨.reg .a, (.mem (.dpIndY b1))⟩⟩,
    ⟨(.orAImm b1), 0x08, [b1], 2, true, ⟨.reg .a, (.imm b1)⟩⟩,
    ⟨(.orDpImm b2 b1), 0x18, [b1, b2], 5, true, ⟨.mem (.dp b2), (.imm b1)⟩⟩,
    ⟨(.orDdSs b2 b1), 0x09, [b1, b2], 6, true, ⟨.mem (.dp b2), (.mem (.dp b1))⟩⟩,
    ⟨.orIndXIndY, 0x19, [], 5, true, ⟨.mem .indX, (.mem .indY)⟩⟩ ]

/-- R278-R289: AND. -/
def andForms (b1 b2 : Byte) : List (Form AluShape) :=
  [ ⟨(.andADp b1), 0x24, [b1], 3, true, ⟨.reg .a, (.mem (.dp b1))⟩⟩,
    ⟨(.andADpX b1), 0x34, [b1], 4, true, ⟨.reg .a, (.mem (.dpX b1))⟩⟩,
    ⟨(.andAAbs (Word.mk b2 b1)), 0x25, [b1, b2], 4, true, ⟨.reg .a, (.mem (.abs (Word.mk b2 b1)))⟩⟩,
    ⟨(.andAAbsX (Word.mk b2 b1)), 0x35, [b1, b2], 5, true, ⟨.reg .a, (.mem (.absX (Word.mk b2 b1)))⟩⟩,
    ⟨.andAIndX, 0x26, [], 3, true, ⟨.reg .a, (.mem .indX)⟩⟩,
    ⟨(.andAAbsY (Word.mk b2 b1)), 0x36, [b1, b2], 5, true, ⟨.reg .a, (.mem (.absY (Word.mk b2 b1)))⟩⟩,
    ⟨(.andADpXInd b1), 0x27, [b1], 6, true, ⟨.reg .a, (.mem (.dpXInd b1))⟩⟩,
    ⟨(.andADpIndY b1), 0x37, [b1], 6, true, ⟨.reg .a, (.mem (.dpIndY b1))⟩⟩,
    ⟨(.andAImm b1), 0x28, [b1], 2, true, ⟨.reg .a, (.imm b1)⟩⟩,
    ⟨(.andDpImm b2 b1), 0x38, [b1, b2], 5, true, ⟨.mem (.dp b2), (.imm b1)⟩⟩,
    ⟨(.andDdSs b2 b1), 0x29, [b1, b2], 6, true, ⟨.mem (.dp b2), (.mem (.dp b1))⟩⟩,
    ⟨.andIndXIndY, 0x39, [], 5, true, ⟨.mem .indX, (.mem .indY)⟩⟩ ]

/-- R290-R301: EOR. -/
def eorForms (b1 b2 : Byte) : List (Form AluShape) :=
  [ ⟨(.eorADp b1), 0x44, [b1], 3, true, ⟨.reg .a, (.mem (.dp b1))⟩⟩,
    ⟨(.eorADpX b1), 0x54, [b1], 4, true, ⟨.reg .a, (.mem (.dpX b1))⟩⟩,
    ⟨(.eorAAbs (Word.mk b2 b1)), 0x45, [b1, b2], 4, true, ⟨.reg .a, (.mem (.abs (Word.mk b2 b1)))⟩⟩,
    ⟨(.eorAAbsX (Word.mk b2 b1)), 0x55, [b1, b2], 5, true, ⟨.reg .a, (.mem (.absX (Word.mk b2 b1)))⟩⟩,
    ⟨.eorAIndX, 0x46, [], 3, true, ⟨.reg .a, (.mem .indX)⟩⟩,
    ⟨(.eorAAbsY (Word.mk b2 b1)), 0x56, [b1, b2], 5, true, ⟨.reg .a, (.mem (.absY (Word.mk b2 b1)))⟩⟩,
    ⟨(.eorADpXInd b1), 0x47, [b1], 6, true, ⟨.reg .a, (.mem (.dpXInd b1))⟩⟩,
    ⟨(.eorADpIndY b1), 0x57, [b1], 6, true, ⟨.reg .a, (.mem (.dpIndY b1))⟩⟩,
    ⟨(.eorAImm b1), 0x48, [b1], 2, true, ⟨.reg .a, (.imm b1)⟩⟩,
    ⟨(.eorDpImm b2 b1), 0x58, [b1, b2], 5, true, ⟨.mem (.dp b2), (.imm b1)⟩⟩,
    ⟨(.eorDdSs b2 b1), 0x49, [b1, b2], 6, true, ⟨.mem (.dp b2), (.mem (.dp b1))⟩⟩,
    ⟨.eorIndXIndY, 0x59, [], 5, true, ⟨.mem .indX, (.mem .indY)⟩⟩ ]

/-- R314-R325: ADC. -/
def adcForms (b1 b2 : Byte) : List (Form AluShape) :=
  [ ⟨(.adcADp b1), 0x84, [b1], 3, true, ⟨.reg .a, (.mem (.dp b1))⟩⟩,
    ⟨(.adcADpX b1), 0x94, [b1], 4, true, ⟨.reg .a, (.mem (.dpX b1))⟩⟩,
    ⟨(.adcAAbs (Word.mk b2 b1)), 0x85, [b1, b2], 4, true, ⟨.reg .a, (.mem (.abs (Word.mk b2 b1)))⟩⟩,
    ⟨(.adcAAbsX (Word.mk b2 b1)), 0x95, [b1, b2], 5, true, ⟨.reg .a, (.mem (.absX (Word.mk b2 b1)))⟩⟩,
    ⟨.adcAIndX, 0x86, [], 3, true, ⟨.reg .a, (.mem .indX)⟩⟩,
    ⟨(.adcAAbsY (Word.mk b2 b1)), 0x96, [b1, b2], 5, true, ⟨.reg .a, (.mem (.absY (Word.mk b2 b1)))⟩⟩,
    ⟨(.adcADpXInd b1), 0x87, [b1], 6, true, ⟨.reg .a, (.mem (.dpXInd b1))⟩⟩,
    ⟨(.adcADpIndY b1), 0x97, [b1], 6, true, ⟨.reg .a, (.mem (.dpIndY b1))⟩⟩,
    ⟨(.adcAImm b1), 0x88, [b1], 2, true, ⟨.reg .a, (.imm b1)⟩⟩,
    ⟨(.adcDpImm b2 b1), 0x98, [b1, b2], 5, true, ⟨.mem (.dp b2), (.imm b1)⟩⟩,
    ⟨(.adcDdSs b2 b1), 0x89, [b1, b2], 6, true, ⟨.mem (.dp b2), (.mem (.dp b1))⟩⟩,
    ⟨.adcIndXIndY, 0x99, [], 5, true, ⟨.mem .indX, (.mem .indY)⟩⟩ ]

/-- R326-R337: SBC. -/
def sbcForms (b1 b2 : Byte) : List (Form AluShape) :=
  [ ⟨(.sbcADp b1), 0xA4, [b1], 3, true, ⟨.reg .a, (.mem (.dp b1))⟩⟩,
    ⟨(.sbcADpX b1), 0xB4, [b1], 4, true, ⟨.reg .a, (.mem (.dpX b1))⟩⟩,
    ⟨(.sbcAAbs (Word.mk b2 b1)), 0xA5, [b1, b2], 4, true, ⟨.reg .a, (.mem (.abs (Word.mk b2 b1)))⟩⟩,
    ⟨(.sbcAAbsX (Word.mk b2 b1)), 0xB5, [b1, b2], 5, true, ⟨.reg .a, (.mem (.absX (Word.mk b2 b1)))⟩⟩,
    ⟨.sbcAIndX, 0xA6, [], 3, true, ⟨.reg .a, (.mem .indX)⟩⟩,
    ⟨(.sbcAAbsY (Word.mk b2 b1)), 0xB6, [b1, b2], 5, true, ⟨.reg .a, (.mem (.absY (Word.mk b2 b1)))⟩⟩,
    ⟨(.sbcADpXInd b1), 0xA7, [b1], 6, true, ⟨.reg .a, (.mem (.dpXInd b1))⟩⟩,
    ⟨(.sbcADpIndY b1), 0xB7, [b1], 6, true, ⟨.reg .a, (.mem (.dpIndY b1))⟩⟩,
    ⟨(.sbcAImm b1), 0xA8, [b1], 2, true, ⟨.reg .a, (.imm b1)⟩⟩,
    ⟨(.sbcDpImm b2 b1), 0xB8, [b1, b2], 5, true, ⟨.mem (.dp b2), (.imm b1)⟩⟩,
    ⟨(.sbcDdSs b2 b1), 0xA9, [b1, b2], 6, true, ⟨.mem (.dp b2), (.mem (.dp b1))⟩⟩,
    ⟨.sbcIndXIndY, 0xB9, [], 5, true, ⟨.mem .indX, (.mem .indY)⟩⟩ ]

/-- R302-R313: CMP on A or a memory byte. -/
def cmpForms (b1 b2 : Byte) : List (Form AluShape) :=
  [ ⟨(.cmpADp b1), 0x64, [b1], 3, true, ⟨.reg .a, (.mem (.dp b1))⟩⟩,
    ⟨(.cmpADpX b1), 0x74, [b1], 4, true, ⟨.reg .a, (.mem (.dpX b1))⟩⟩,
    ⟨(.cmpAAbs (Word.mk b2 b1)), 0x65, [b1, b2], 4, true, ⟨.reg .a, (.mem (.abs (Word.mk b2 b1)))⟩⟩,
    ⟨(.cmpAAbsX (Word.mk b2 b1)), 0x75, [b1, b2], 5, true, ⟨.reg .a, (.mem (.absX (Word.mk b2 b1)))⟩⟩,
    ⟨.cmpAIndX, 0x66, [], 3, true, ⟨.reg .a, (.mem .indX)⟩⟩,
    ⟨(.cmpAAbsY (Word.mk b2 b1)), 0x76, [b1, b2], 5, true, ⟨.reg .a, (.mem (.absY (Word.mk b2 b1)))⟩⟩,
    ⟨(.cmpADpXInd b1), 0x67, [b1], 6, true, ⟨.reg .a, (.mem (.dpXInd b1))⟩⟩,
    ⟨(.cmpADpIndY b1), 0x77, [b1], 6, true, ⟨.reg .a, (.mem (.dpIndY b1))⟩⟩,
    ⟨(.cmpAImm b1), 0x68, [b1], 2, true, ⟨.reg .a, (.imm b1)⟩⟩,
    ⟨(.cmpDpImm b2 b1), 0x78, [b1, b2], 5, true, ⟨.mem (.dp b2), (.imm b1)⟩⟩,
    ⟨(.cmpDdSs b2 b1), 0x69, [b1, b2], 6, true, ⟨.mem (.dp b2), (.mem (.dp b1))⟩⟩,
    ⟨.cmpIndXIndY, 0x79, [], 5, true, ⟨.mem .indX, (.mem .indY)⟩⟩ ]

/-- R338-R343: CMP on X and Y. -/
def cmpXYForms (b1 b2 : Byte) : List (Form AluShape) :=
  [ ⟨(.cmpXImm b1), 0xC8, [b1], 2, true, ⟨.reg .x, (.imm b1)⟩⟩,
    ⟨(.cmpXDp b1), 0x3E, [b1], 3, true, ⟨.reg .x, (.mem (.dp b1))⟩⟩,
    ⟨(.cmpXAbs (Word.mk b2 b1)), 0x1E, [b1, b2], 4, true, ⟨.reg .x, (.mem (.abs (Word.mk b2 b1)))⟩⟩,
    ⟨(.cmpYImm b1), 0xAD, [b1], 2, true, ⟨.reg .y, (.imm b1)⟩⟩,
    ⟨(.cmpYDp b1), 0x7E, [b1], 3, true, ⟨.reg .y, (.mem (.dp b1))⟩⟩,
    ⟨(.cmpYAbs (Word.mk b2 b1)), 0x5E, [b1, b2], 4, true, ⟨.reg .y, (.mem (.abs (Word.mk b2 b1)))⟩⟩ ]

/-- R356-R363: ASL and ROL. -/
def leftShiftForms (b1 b2 : Byte) : List (Form RmwShape) :=
  [ ⟨(.aslDp b1), 0x0B, [b1], 4, true, ⟨.asl, .mem (.dp b1)⟩⟩,
    ⟨(.aslDpX b1), 0x1B, [b1], 5, true, ⟨.asl, .mem (.dpX b1)⟩⟩,
    ⟨(.aslAbs (Word.mk b2 b1)), 0x0C, [b1, b2], 5, true, ⟨.asl, .mem (.abs (Word.mk b2 b1))⟩⟩,
    ⟨.aslA, 0x1C, [], 2, true, ⟨.asl, .reg .a⟩⟩,
    ⟨(.rolDp b1), 0x2B, [b1], 4, true, ⟨.rol, .mem (.dp b1)⟩⟩,
    ⟨(.rolDpX b1), 0x3B, [b1], 5, true, ⟨.rol, .mem (.dpX b1)⟩⟩,
    ⟨(.rolAbs (Word.mk b2 b1)), 0x2C, [b1, b2], 5, true, ⟨.rol, .mem (.abs (Word.mk b2 b1))⟩⟩,
    ⟨.rolA, 0x3C, [], 2, true, ⟨.rol, .reg .a⟩⟩ ]

/-- R364-R371: LSR and ROR. -/
def rightShiftForms (b1 b2 : Byte) : List (Form RmwShape) :=
  [ ⟨(.lsrDp b1), 0x4B, [b1], 4, true, ⟨.lsr, .mem (.dp b1)⟩⟩,
    ⟨(.lsrDpX b1), 0x5B, [b1], 5, true, ⟨.lsr, .mem (.dpX b1)⟩⟩,
    ⟨(.lsrAbs (Word.mk b2 b1)), 0x4C, [b1, b2], 5, true, ⟨.lsr, .mem (.abs (Word.mk b2 b1))⟩⟩,
    ⟨.lsrA, 0x5C, [], 2, true, ⟨.lsr, .reg .a⟩⟩,
    ⟨(.rorDp b1), 0x6B, [b1], 4, true, ⟨.ror, .mem (.dp b1)⟩⟩,
    ⟨(.rorDpX b1), 0x7B, [b1], 5, true, ⟨.ror, .mem (.dpX b1)⟩⟩,
    ⟨(.rorAbs (Word.mk b2 b1)), 0x6C, [b1, b2], 5, true, ⟨.ror, .mem (.abs (Word.mk b2 b1))⟩⟩,
    ⟨.rorA, 0x7C, [], 2, true, ⟨.ror, .reg .a⟩⟩ ]

/-- R372-R383: DEC and INC. -/
def incDecForms (b1 b2 : Byte) : List (Form RmwShape) :=
  [ ⟨(.decDp b1), 0x8B, [b1], 4, true, ⟨.dec, .mem (.dp b1)⟩⟩,
    ⟨(.decDpX b1), 0x9B, [b1], 5, true, ⟨.dec, .mem (.dpX b1)⟩⟩,
    ⟨(.decAbs (Word.mk b2 b1)), 0x8C, [b1, b2], 5, true, ⟨.dec, .mem (.abs (Word.mk b2 b1))⟩⟩,
    ⟨.decA, 0x9C, [], 2, true, ⟨.dec, .reg .a⟩⟩,
    ⟨(.incDp b1), 0xAB, [b1], 4, true, ⟨.inc, .mem (.dp b1)⟩⟩,
    ⟨(.incDpX b1), 0xBB, [b1], 5, true, ⟨.inc, .mem (.dpX b1)⟩⟩,
    ⟨(.incAbs (Word.mk b2 b1)), 0xAC, [b1, b2], 5, true, ⟨.inc, .mem (.abs (Word.mk b2 b1))⟩⟩,
    ⟨.incA, 0xBC, [], 2, true, ⟨.inc, .reg .a⟩⟩,
    ⟨.decX, 0x1D, [], 2, true, ⟨.dec, .reg .x⟩⟩,
    ⟨.incX, 0x3D, [], 2, true, ⟨.inc, .reg .x⟩⟩,
    ⟨.decY, 0xDC, [], 2, true, ⟨.dec, .reg .y⟩⟩,
    ⟨.incY, 0xFC, [], 2, true, ⟨.inc, .reg .y⟩⟩ ]

/-- R393, R394: MOVW. -/
def movwForms (b1 : Byte) : List (Form Bool) :=
  [ ⟨(.movwYaDp b1), 0xBA, [b1], 5, true, true⟩,
    ⟨(.movwDpYa b1), 0xDA, [b1], 5, true, false⟩ ]

/-- R395, R396: INCW and DECW. -/
def incwForms (b1 : Byte) : List (Form (Word → Word)) :=
  [ ⟨(.incw b1), 0x3A, [b1], 6, true, (· + 1)⟩,
    ⟨(.decw b1), 0x1A, [b1], 6, true, (· - 1)⟩ ]

/-- R397-R399: ADDW, SUBW and CMPW. -/
def wordForms (b1 : Byte) : List (Form WordKind) :=
  [ ⟨(.addw b1), 0x7A, [b1], 5, true, .add⟩,
    ⟨(.subw b1), 0x9A, [b1], 5, true, .subtract⟩,
    ⟨(.cmpw b1), 0x5A, [b1], 4, true, .compare⟩ ]

/-- R400: MUL. -/
def mulForm : List (Form Unit) :=
  [ ⟨.mul, 0xCF, [], 9, true, ()⟩ ]

/-- R401: DIV. -/
def divForm : List (Form Unit) :=
  [ ⟨.div, 0x9E, [], 12, true, ()⟩ ]

/-- R412-R420: the branches on a flag, and BRA. -/
def branchForms (b1 : Byte) : List (Form (Flags → Bool)) :=
  [ ⟨(.bpl b1), 0x10, [b1], 4, true, fun f => !f.n⟩,
    ⟨(.bmi b1), 0x30, [b1], 4, true, fun f => f.n⟩,
    ⟨(.bvc b1), 0x50, [b1], 4, true, fun f => !f.v⟩,
    ⟨(.bvs b1), 0x70, [b1], 4, true, fun f => f.v⟩,
    ⟨(.bcc b1), 0x90, [b1], 4, true, fun f => !f.c⟩,
    ⟨(.bcs b1), 0xB0, [b1], 4, true, fun f => f.c⟩,
    ⟨(.bne b1), 0xD0, [b1], 4, true, fun f => !f.z⟩,
    ⟨(.beq b1), 0xF0, [b1], 4, true, fun f => f.z⟩,
    ⟨(.bra b1), 0x2F, [b1], 4, true, fun _ => true⟩ ]

/-- R421-R436: BBS and BBC. -/
def bitBranchForms (b1 b2 : Byte) : List (Form BitShape) :=
  [ ⟨(.bbsBit0 b1 b2), 0x03, [b1, b2], 7, true, ⟨0, true⟩⟩,
    ⟨(.bbcBit0 b1 b2), 0x13, [b1, b2], 7, true, ⟨0, false⟩⟩,
    ⟨(.bbsBit1 b1 b2), 0x23, [b1, b2], 7, true, ⟨1, true⟩⟩,
    ⟨(.bbcBit1 b1 b2), 0x33, [b1, b2], 7, true, ⟨1, false⟩⟩,
    ⟨(.bbsBit2 b1 b2), 0x43, [b1, b2], 7, true, ⟨2, true⟩⟩,
    ⟨(.bbcBit2 b1 b2), 0x53, [b1, b2], 7, true, ⟨2, false⟩⟩,
    ⟨(.bbsBit3 b1 b2), 0x63, [b1, b2], 7, true, ⟨3, true⟩⟩,
    ⟨(.bbcBit3 b1 b2), 0x73, [b1, b2], 7, true, ⟨3, false⟩⟩,
    ⟨(.bbsBit4 b1 b2), 0x83, [b1, b2], 7, true, ⟨4, true⟩⟩,
    ⟨(.bbcBit4 b1 b2), 0x93, [b1, b2], 7, true, ⟨4, false⟩⟩,
    ⟨(.bbsBit5 b1 b2), 0xA3, [b1, b2], 7, true, ⟨5, true⟩⟩,
    ⟨(.bbcBit5 b1 b2), 0xB3, [b1, b2], 7, true, ⟨5, false⟩⟩,
    ⟨(.bbsBit6 b1 b2), 0xC3, [b1, b2], 7, true, ⟨6, true⟩⟩,
    ⟨(.bbcBit6 b1 b2), 0xD3, [b1, b2], 7, true, ⟨6, false⟩⟩,
    ⟨(.bbsBit7 b1 b2), 0xE3, [b1, b2], 7, true, ⟨7, true⟩⟩,
    ⟨(.bbcBit7 b1 b2), 0xF3, [b1, b2], 7, true, ⟨7, false⟩⟩ ]

/-- R437, R438: CBNE. -/
def cbneForms (b1 b2 : Byte) : List (Form Mode) :=
  [ ⟨(.cbneDp b1 b2), 0x2E, [b1, b2], 7, true, (.dp b1)⟩,
    ⟨(.cbneDpX b1 b2), 0xDE, [b1, b2], 8, true, (.dpX b1)⟩ ]

/-- R439, R440: DBNZ. -/
def dbnzForms (b1 b2 : Byte) : List (Form Bool) :=
  [ ⟨(.dbnzDp b1 b2), 0x6E, [b1, b2], 7, true, true⟩,
    ⟨(.dbnzY b1), 0xFE, [b1], 6, true, false⟩ ]

/-- R441-R444: JMP, CALL and PCALL. -/
def jumpForms (b1 b2 : Byte) : List (Form JumpShape) :=
  [ ⟨(.jmpAbs (Word.mk b2 b1)), 0x5F, [b1, b2], 3, true, ⟨.direct (Word.mk b2 b1), false⟩⟩,
    ⟨(.jmpAbsXInd (Word.mk b2 b1)), 0x1F, [b1, b2], 6, true, ⟨.indirectX (Word.mk b2 b1), false⟩⟩,
    ⟨(.call (Word.mk b2 b1)), 0x3F, [b1, b2], 8, true, ⟨.direct (Word.mk b2 b1), true⟩⟩,
    ⟨(.pcall b1), 0x4F, [b1], 6, true, ⟨.direct (0xFF00 ||| b1.setWidth 16), true⟩⟩ ]

/-- R445-R460: TCALL n. -/
def tcallForms : List (Form Nat) :=
  [ ⟨.tcall0, 0x01, [], 8, true, 0⟩,
    ⟨.tcall1, 0x11, [], 8, true, 1⟩,
    ⟨.tcall2, 0x21, [], 8, true, 2⟩,
    ⟨.tcall3, 0x31, [], 8, true, 3⟩,
    ⟨.tcall4, 0x41, [], 8, true, 4⟩,
    ⟨.tcall5, 0x51, [], 8, true, 5⟩,
    ⟨.tcall6, 0x61, [], 8, true, 6⟩,
    ⟨.tcall7, 0x71, [], 8, true, 7⟩,
    ⟨.tcall8, 0x81, [], 8, true, 8⟩,
    ⟨.tcall9, 0x91, [], 8, true, 9⟩,
    ⟨.tcall10, 0xA1, [], 8, true, 10⟩,
    ⟨.tcall11, 0xB1, [], 8, true, 11⟩,
    ⟨.tcall12, 0xC1, [], 8, true, 12⟩,
    ⟨.tcall13, 0xD1, [], 8, true, 13⟩,
    ⟨.tcall14, 0xE1, [], 8, true, 14⟩,
    ⟨.tcall15, 0xF1, [], 8, true, 15⟩ ]

/-- R461: RET. -/
def retForm : List (Form Unit) :=
  [ ⟨.ret, 0x6F, [], 5, true, ()⟩ ]

/-- R462-R465: PUSH. -/
def pushForms : List (Form (State → Byte)) :=
  [ ⟨.pushA, 0x2D, [], 4, true, fun s => s.a⟩,
    ⟨.pushX, 0x4D, [], 4, true, fun s => s.x⟩,
    ⟨.pushY, 0x6D, [], 4, true, fun s => s.y⟩,
    ⟨.pushPsw, 0x0D, [], 4, true, State.packPsw⟩ ]

/-- R466-R469: POP; none is the PSW. -/
def popForms : List (Form (Option Reg8)) :=
  [ ⟨.popA, 0xAE, [], 4, true, some .a⟩,
    ⟨.popX, 0xCE, [], 4, true, some .x⟩,
    ⟨.popY, 0xEE, [], 4, true, some .y⟩,
    ⟨.popPsw, 0x8E, [], 4, true, none⟩ ]

/-- R470-R485: SET1 and CLR1. -/
def bitForms (b1 : Byte) : List (Form BitShape) :=
  [ ⟨(.set1Bit0 b1), 0x02, [b1], 4, true, ⟨0, true⟩⟩,
    ⟨(.clr1Bit0 b1), 0x12, [b1], 4, true, ⟨0, false⟩⟩,
    ⟨(.set1Bit1 b1), 0x22, [b1], 4, true, ⟨1, true⟩⟩,
    ⟨(.clr1Bit1 b1), 0x32, [b1], 4, true, ⟨1, false⟩⟩,
    ⟨(.set1Bit2 b1), 0x42, [b1], 4, true, ⟨2, true⟩⟩,
    ⟨(.clr1Bit2 b1), 0x52, [b1], 4, true, ⟨2, false⟩⟩,
    ⟨(.set1Bit3 b1), 0x62, [b1], 4, true, ⟨3, true⟩⟩,
    ⟨(.clr1Bit3 b1), 0x72, [b1], 4, true, ⟨3, false⟩⟩,
    ⟨(.set1Bit4 b1), 0x82, [b1], 4, true, ⟨4, true⟩⟩,
    ⟨(.clr1Bit4 b1), 0x92, [b1], 4, true, ⟨4, false⟩⟩,
    ⟨(.set1Bit5 b1), 0xA2, [b1], 4, true, ⟨5, true⟩⟩,
    ⟨(.clr1Bit5 b1), 0xB2, [b1], 4, true, ⟨5, false⟩⟩,
    ⟨(.set1Bit6 b1), 0xC2, [b1], 4, true, ⟨6, true⟩⟩,
    ⟨(.clr1Bit6 b1), 0xD2, [b1], 4, true, ⟨6, false⟩⟩,
    ⟨(.set1Bit7 b1), 0xE2, [b1], 4, true, ⟨7, true⟩⟩,
    ⟨(.clr1Bit7 b1), 0xF2, [b1], 4, true, ⟨7, false⟩⟩ ]

/-- R486, R487: TSET1 and TCLR1. -/
def testForms (b1 b2 : Byte) : List (Form (Byte → Byte → Byte)) :=
  [ ⟨(.tset1 (Word.mk b2 b1)), 0x0E, [b1, b2], 6, true, fun m a => m ||| a⟩,
    ⟨(.tclr1 (Word.mk b2 b1)), 0x4E, [b1, b2], 6, true, fun m a => m &&& ~~~a⟩ ]

/-- R488-R493: the flag instructions and NOP. -/
def flagForms : List (Form (Flags → Flags)) :=
  [ ⟨.clrc, 0x60, [], 2, true, fun f => { f with c := false }⟩,
    ⟨.setc, 0x80, [], 2, true, fun f => { f with c := true }⟩,
    ⟨.notc, 0xED, [], 3, true, fun f => { f with c := !f.c }⟩,
    ⟨.clrp, 0x20, [], 2, true, fun f => { f with p := false }⟩,
    ⟨.setp, 0x40, [], 2, true, fun f => { f with p := true }⟩,
    ⟨.nop, 0x00, [], 2, true, fun f => f⟩ ]

/-- R501-R506: a memory bit combined into C. -/
def carryForms (b1 b2 : Byte) : List (Form (Bool → Bool → Bool)) :=
  [ ⟨(.or1CMb (bitAddr b1 b2) (bitNumber b1 b2)), 0x0A, [b1, b2], 5, false, fun c b => c || b⟩,
    ⟨(.or1CNotMb (bitAddr b1 b2) (bitNumber b1 b2)), 0x2A, [b1, b2], 5, false, fun c b => c || !b⟩,
    ⟨(.and1CMb (bitAddr b1 b2) (bitNumber b1 b2)), 0x4A, [b1, b2], 4, false, fun c b => c && b⟩,
    ⟨(.and1CNotMb (bitAddr b1 b2) (bitNumber b1 b2)), 0x6A, [b1, b2], 4, false, fun c b => c && !b⟩,
    ⟨(.eor1CMb (bitAddr b1 b2) (bitNumber b1 b2)), 0x8A, [b1, b2], 5, false, fun c b => c != b⟩,
    ⟨(.mov1CMb (bitAddr b1 b2) (bitNumber b1 b2)), 0xAA, [b1, b2], 4, false, fun _ b => b⟩ ]

/-- R507, R508: MOV1 m.b, C and NOT1: the bit written, from C and the bit before. -/
def storeBitForms (b1 b2 : Byte) : List (Form (Bool → Bool → Bool)) :=
  [ ⟨(.mov1MbFromC (bitAddr b1 b2) (bitNumber b1 b2)), 0xCA, [b1, b2], 6, false, fun c _ => c⟩,
    ⟨(.not1 (bitAddr b1 b2) (bitNumber b1 b2)), 0xEA, [b1, b2], 5, false, fun _ b => !b⟩ ]

/-- R509-R511: CLRV, EI and DI; `k` is the value the policy leaves of a set bit (R38). -/
def hibForms : List (Form (Bool → Flags → Flags)) :=
  [ ⟨.clrv, 0xE0, [], 2, false, fun _ f => { f with v := false, h := false }⟩,
    ⟨.ei, 0xA0, [], 3, false, fun k f => { f with i := k }⟩,
    ⟨.di, 0xC0, [], 3, false, fun _ f => { f with i := false }⟩ ]

/-- R512, R513: DAA and DAS. -/
def decimalForms : List (Form Bool) :=
  [ ⟨.daa, 0xDF, [], 3, false, true⟩,
    ⟨.das, 0xBE, [], 3, false, false⟩ ]

/-- R514, R515: BRK and RETI. -/
def breakForms : List (Form Bool) :=
  [ ⟨.brk, 0x0F, [], 8, false, true⟩,
    ⟨.reti, 0x7F, [], 6, false, false⟩ ]

/-- R516, R517: SLEEP and STOP. -/
def haltForms : List (Form Unit) :=
  [ ⟨.sleep, 0xEF, [], 3, false, ()⟩,
    ⟨.stop, 0xFF, [], 3, false, ()⟩ ]

/-! ### What it is for a form to run -/

/-- R410: PC and the time after a branch: taken, or not taken with a refund of 2 cycles. -/
structure Branched (taken : Bool) (rel : Byte) (s t : State) : Prop where
  pc : t.pc = if taken then s.pc + rel.signExtend 16 else s.pc
  time : t.time = if taken then s.time else s.time - 2
  halted : t.halted = s.halted
  machine : SameMachine s t

/-- The address `0x0100 + SP + k` of a stack byte (R106): k = 0 is the next free byte. -/
def stackByte (s : State) (k : Byte) : Word := Word.mk 1 (s.sp + k)

/-- R106: RAM, read byte by byte, after the bytes are pushed in order from stack pointer `sp` down. -/
def afterPushes : List Byte → Byte → (Word → Byte) → Word → Byte
  | [], _, ram => ram
  | v :: vs, sp, ram => afterPushes vs (sp - 1) fun b => if b = Word.mk 1 sp then v else ram b

/-- R106, R411: from `s` to `t` the bytes of `vs` were pushed in order: nothing else in RAM changes, there is no side
effect, and SP is lower by their number. -/
structure Pushed (vs : List Byte) (s t : State) : Prop where
  bytes : ∀ b, t.peek b = afterPushes vs s.sp s.peek b
  bank : t.dspRegs = s.dspRegs
  timers : t.timers = s.timers
  sp : t.sp = s.sp - BitVec.ofNat 8 vs.length

/-- R263, R264, R390: `r` is the sum `d + src + cin` of n bits, and `f` and `f'` are the flags before and after. -/
structure Added (n : Nat) (p : Params) (d src : BitVec n) (cin : Nat) (r : BitVec n) (f f' : Flags) : Prop where
  sum : r = BitVec.ofNat n (d.toNat + src.toNat + cin)
  carry : f'.c = decide (d.toNat + src.toNat + cin ≥ 2 ^ n)
  negative : f'.n = r.msb
  zero : f'.z = if p.nzFromRawSum then decide (d.toNat + src.toNat + cin = 0) else decide (r = 0)
  others : f'.p = f.p ∧ f'.b = f.b ∧ f'.i = f.i
  spcjs : p.flagProfile = .spcjs → f'.v = f.v ∧ f'.h = f.h
  hardwareV : p.flagProfile = .hardware → f'.v = (d.msb == src.msb && d.msb != r.msb)
  hardwareH : p.flagProfile = .hardware → p.hibPolicy = .preserve → f'.h = (d ^^^ src ^^^ r).getLsbD (n - 4)

/-- R265, R399: the flags `f'` of the comparison of `d` with `src`, from the flags `f` before it. -/
def Compared {n : Nat} (d src : BitVec n) (f f' : Flags) : Prop :=
  f' = { f with c := decide (src ≤ d), n := (d - src).msb, z := decide (d = src) }

/-- An ALU form with a result: R266-R301, R314-R337. The source is read first; on a memory destination the first operand is
read next and the result is stored there; on a register the register takes the result. -/
def AluRuns (op : AluOp) (f : Form AluShape) : Prop :=
  f.Encoded ∧ ∀ s : State,
    let src := f.shape.src.read s
    match f.shape.dst with
    | .reg r =>
      ∃ t, exec f.instr s = .next t ∧
        (∀ q, t.reg q = if q = r then (alu op (s.reg r) src.1 s).1 else s.reg q) ∧
        t.flags = (alu op (s.reg r) src.1 s).2.flags ∧
        t.sp = s.sp ∧ Steady s t ∧ ReadOnly s t ∧ SameDevices src.2 t
    | .mem m =>
      let ea := m.ea src.2
      let dst := memRead ea.1 ea.2
      ∃ t, exec f.instr s = .next t ∧
        Stored ea.1 (alu op dst.1 src.1 s).1 dst.2 t ∧ ReadOnly s dst.2 ∧
        t.flags = (alu op dst.1 src.1 s).2.flags ∧
        SameRegs s t ∧ t.sp = s.sp ∧ Steady s t

/-- A CMP form: R302-R313, R338-R343. The source is read first, then the first operand; nothing is stored. -/
def CmpRuns (f : Form AluShape) : Prop :=
  f.Encoded ∧ ∀ s : State,
    let src := f.shape.src.read s
    let dst := match f.shape.dst with
      | .reg r => (s.reg r, src.2)
      | .mem m => memRead (m.ea src.2).1 (m.ea src.2).2
    ∃ t, exec f.instr s = .next t ∧
      Compared dst.1 src.1 s.flags t.flags ∧
      SameRegs s t ∧ t.sp = s.sp ∧ Steady s t ∧ ReadOnly s t ∧ SameDevices dst.2 t

/-- A one-operand form: R356-R383. -/
def RmwRuns (f : Form RmwShape) : Prop :=
  f.Encoded ∧ ∀ s : State,
    match f.shape.dst with
    | .reg r =>
      ∃ t, exec f.instr s = .next t ∧
        (∀ q, t.reg q = if q = r then (rmwFn f.shape.op (s.reg r) s).1 else s.reg q) ∧
        t.flags = (rmwFn f.shape.op (s.reg r) s).2.flags ∧
        t.sp = s.sp ∧ Steady s t ∧ SameDevices s t
    | .mem m =>
      let ea := m.ea s
      let dst := memRead ea.1 ea.2
      ∃ t, exec f.instr s = .next t ∧
        Stored ea.1 (rmwFn f.shape.op dst.1 s).1 dst.2 t ∧ ReadOnly s dst.2 ∧
        t.flags = (rmwFn f.shape.op dst.1 s).2.flags ∧
        SameRegs s t ∧ t.sp = s.sp ∧ Steady s t

/-! ### The loop -/

/-- The machine a CPU step works on: an idle machine opens its call first (R770). -/
def inCall (s : State) : State :=
  match s.phase with
  | .idle => { s with target := s.target + 32, phase := .cpu }
  | _ => s

/-- Three bytes of RAM from `a` on, the addresses wrapping. -/
def bytesAt (s : State) (a : Word) : List Byte := [s.peek a, s.peek (a + 1), s.peek (a + 2)]

/-- R172, R170: the instruction at PC fits in the run. -/
def Fits (op : Byte) (u : State) : Prop := u.time + opCycles op ≤ u.target

end Sys2Proof.Machine
end

