-- ==== Sys2Proof/Certificates/Slice0/Obligations.lean ====
section
/-! DEFINITION. Obligations.lean: the statements about the machine, each one a proposition for the provers. Each docstring
names the rules of spec/ it formalises. -/

section

open Sys2Proof Sys2Proof.Machine

/-! ### Encoding -/

/-- R150-R157: the bytes of every well-formed instruction decode to it, whatever follows them: no bit of an encoding is
dropped. -/
def Obligations.DecodeEncode : Prop :=
  ∀ i : Instr, i.WellFormed → ∀ rest : List Byte, decode (encode i ++ rest) = .ok (i, rest)

/-- R153, R159: whatever decodes is a well-formed instruction, and its encoding is the bytes it was read from; three bytes
always decode. -/
def Obligations.EncodeDecode : Prop :=
  (∀ bs i rest, decode bs = .ok (i, rest) → i.WellFormed ∧ encode i ++ rest = bs) ∧
    ∀ op b1 b2 : Byte, ∃ i rest, decode [op, b1, b2] = .ok (i, rest)

/-- R152: words written out from the formats of R152: `op`, `op_imm`, `op_dp`, `op_rel`, `op_up`, `op_abs`, `op_ss_dd`,
`op_imm_dd`, `op_dp_rel`, `op_mb`. -/
def Obligations.DecodeWords : Prop :=
  decode [0x6F] = .ok (.ret, []) ∧
    decode [0xE8, 0x12] = .ok (.movAImm 0x12, []) ∧
    decode [0xF4, 0x34] = .ok (.movADpX 0x34, []) ∧
    decode [0xD0, 0xFC] = .ok (.bne 0xFC, []) ∧
    decode [0x4F, 0x80] = .ok (.pcall 0x80, []) ∧
    decode [0x5F, 0x34, 0x12] = .ok (.jmpAbs 0x1234, []) ∧
    decode [0x89, 0x10, 0x20] = .ok (.adcDdSs 0x20 0x10, []) ∧
    decode [0x78, 0x10, 0x20] = .ok (.cmpDpImm 0x20 0x10, []) ∧
    decode [0x33, 0x10, 0xFE] = .ok (.bbcBit1 0x10 0xFE, []) ∧
    decode [0xCA, 0x34, 0xB2] = .ok (.mov1MbFromC 0x1234 5, []) ∧
    decode [0xE2, 0x10] = .ok (.set1Bit7 0x10, []) ∧
    decode [0xF1] = .ok (.tcall15, [])

/-! ### The loop -/

/-- R171-R177: where the opcode and operand bytes are ordinary RAM, a step of a running machine is the body of the decoded
instruction, run after its whole cost is committed and with PC at the next instruction. -/
def Obligations.StepRunsDecoded : Prop :=
  ∀ s : State, s.fault = none → s.halted = false → s.phase ≠ .dsp →
    let u := inCall s
    u.time < u.target →
    (∀ b ∈ [u.pc, u.pc + 1, u.pc + 2], refreshed b = false) →
    ∀ i rest, decode (bytesAt u u.pc) = .ok (i, rest) →
    u.params.implements (u.peek u.pc) = true → Fits (u.peek u.pc) u →
    step s =
      exec i
        { u with
          time := u.time + opCycles (u.peek u.pc)
          pc := u.pc + BitVec.ofNat 16 (encode i).length }

/-- R171, R173-R175, R182: the fetches of a step wherever PC points: the opcode before the cost is committed, the first
operand byte always and the second for three-byte opcodes only, after it; and what a fetch is. -/
def Obligations.StepFetchesInOrder : Prop :=
  (∀ (a : Word) (s : State), fetch a s = if s.params.fetchSideEffects then memRead a s else (s.peek a, s)) ∧
  ∀ s : State, s.fault = none → s.halted = false → s.phase ≠ .dsp →
    let u := inCall s
    u.time < u.target →
    let f0 := fetch u.pc u
    let f1 := fetch (u.pc + 1) { f0.2 with time := u.time + opCycles f0.1 }
    let f2 := if opLength f0.1 = 3 then fetch (u.pc + 2) f1.2 else (0, f1.2)
    ∀ i rest, decode [f0.1, f1.1, f2.1] = .ok (i, rest) →
    u.params.implements f0.1 = true → Fits f0.1 u →
    step s = exec i { f2.2 with pc := u.pc + BitVec.ofNat 16 (opLength f0.1) }

/-- R172, with R182: an instruction whose table cost does not fit is not started: `run` returns with the machine as the fetch of its
opcode leaves it, for every PC, the read effects of that fetch included; nothing else changes. -/
def Obligations.DeferralLeavesState : Prop :=
  ∀ s : State, s.fault = none → s.halted = false → s.phase ≠ .dsp →
    let u := inCall s
    u.time < u.target → ¬ Fits (fetch u.pc u).1 u →
    let t := { (fetch u.pc u).2 with phase := .dsp }
    step s = .next t ∧ ReadOnly u t ∧ SameRegs u t ∧ t.sp = u.sp ∧ t.flags = u.flags ∧
      Steady { u with phase := .dsp } t ∧
      (refreshed u.pc = false ∨ u.params.fetchSideEffects = false → t = { u with phase := .dsp })

/-- R170, R181: `run` returns at the target, and at once, with the time moved to the target, when the CPU is halted. -/
def Obligations.RunEnds : Prop :=
  ∀ s : State, s.fault = none → s.phase ≠ .dsp →
    let u := inCall s
    (s.halted = true → step s = .next { u with time := u.target, phase := .dsp }) ∧
    (s.halted = false → u.target ≤ u.time → step s = .next { u with phase := .dsp })

/-- R176: an opcode outside IMPLEMENTED that fits raises UnknownOpcode with its value and address, after the cost is
committed and the operands are fetched. -/
def Obligations.UnknownOpcodeFaults : Prop :=
  ∀ s : State, s.fault = none → s.halted = false → s.phase ≠ .dsp →
    let u := inCall s
    u.time < u.target →
    let f0 := fetch u.pc u
    let f1 := fetch (u.pc + 1) { f0.2 with time := u.time + opCycles f0.1 }
    let f2 := if opLength f0.1 = 3 then fetch (u.pc + 2) f1.2 else (0, f1.2)
    u.params.implements f0.1 = false → Fits f0.1 u →
    step s =
      .fault (.unknownOpcode f0.1 u.pc
        { f2.2 with
          pc := u.pc + BitVec.ofNat 16 (opLength f0.1)
          fault := some (.unknownOpcode f0.1 u.pc) })

/-- R600, R604: a step ends in a next state without a fault, or in one of the two faults of a running machine, whose frozen
state raises the same fault again without change. -/
def Obligations.FaultsAreTerminal : Prop :=
  ∀ s : State,
    match step s with
    | .next t => s.fault = none ∧ t.fault = none
    | .fault (.unknownOpcode op a z) => z.fault = some (.unknownOpcode op a) ∧ step z = step s
    | .fault (.unsupportedFeature f v z) => z.fault = some (.unsupportedFeature f v) ∧ step z = step s
    | .fault (.snapshotRejected _) => False
    | .refused _ => False

/-- R177, R410: every body runs to a next state; none touches the target, the fault, the DSP's own state or the parameters;
the time is unchanged or 2 lower (a branch not taken); only SLEEP and STOP halt. -/
def Obligations.BodiesRun : Prop :=
  ∀ (i : Instr) (s : State), ∃ t, exec i s = .next t ∧ SameMachine s t ∧
    (t.time = s.time ∨ t.time = s.time - 2) ∧ (t.halted = s.halted ∨ t.halted = true ∧ (i = .sleep ∨ i = .stop))

/-- R32, R38, R39: the only writers of SP, P, V and of B, H and I, under FLAG_PROFILE = spcjs. -/
def Obligations.RegisterWriters : Prop :=
  ∀ (i : Instr) (s t : State), exec i s = .next t → s.params.flagProfile = .spcjs →
    (t.sp ≠ s.sp → i = .movSpX ∨ i = .brk ∨ i = .reti ∨ (∃ f ∈ pushForms, i = f.instr) ∨ (∃ f ∈ popForms, i = f.instr) ∨
      (∃ m, i = .call m) ∨ (∃ up, i = .pcall up) ∨ (∃ f ∈ tcallForms, i = f.instr) ∨ i = .ret) ∧
    (t.flags.p ≠ s.flags.p → i = .clrp ∨ i = .setp ∨ i = .popPsw ∨ i = .reti) ∧
    (t.flags.v ≠ s.flags.v → i = .div ∨ i = .popPsw ∨ i = .reti ∨ i = .clrv) ∧
    (t.flags.b ≠ s.flags.b → i = .popPsw ∨ i = .reti ∨ i = .brk) ∧
    (t.flags.h ≠ s.flags.h → i = .popPsw ∨ i = .reti ∨ i = .clrv) ∧
    (t.flags.i ≠ s.flags.i → i = .popPsw ∨ i = .reti ∨ i = .brk ∨ i = .ei ∨ i = .di)

/-! ### Memory -/

/-- R101: what a read returns and what it rewrites: a counter register is refreshed and its counter cleared, the DSP data
port is refreshed from the bank, every other address is read as it is. -/
def Obligations.MemReadRule : Prop :=
  ∀ (a : Word) (s : State),
    let r := memRead a s
    r.2 = { s with ram := r.2.ram, timers := r.2.timers } ∧
    r.1 = r.2.peek a ∧ (∀ b, b ≠ a → r.2.peek b = s.peek b) ∧
    (∀ i : Fin 3, a.toNat = 0xFD + i →
      let synced := (s.timers[i]).sync (timerRate i) s.time
      r.1 = BitVec.ofNat 8 synced.counter ∧ r.2.timers = s.timers.set i { synced with counter := 0 }) ∧
    (a = 0x00F3 → r.1.toNat = (s.dspRegs[(s.peek 0x00F2).toNat % 128]?.getD 0).toNat ∧ r.2.timers = s.timers) ∧
    (refreshed a = false → r = (s.peek a, s))

/-- R102: a write stores its byte, then enables the timers (0x00F1), sets a divisor (0x00FA-0x00FC) or writes the DSP bank
(0x00F3 with an index below 0x80); every other address is storage only. -/
def Obligations.MemWriteRule : Prop :=
  ∀ (a : Word) (v : Byte) (s : State),
    let t := memWrite a v s
    t = { s with ram := t.ram, timers := t.timers, dspRegs := t.dspRegs } ∧
    (∀ b, t.peek b = if b = a then v else s.peek b) ∧
    (∀ i : Fin 3, t.timers[i] =
      if a = 0x00F1 then (s.timers[i]).setEnabled (timerRate i) s.time (v.getLsbD i)
      else if a.toNat = 0xFA + i then (s.timers[i]).setDivisor (timerRate i) s.time v
      else s.timers[i]) ∧
    ∀ k : Fin 128, t.dspRegs[k] = if a = 0x00F3 ∧ (s.peek 0x00F2).toNat = k then v else s.dspRegs[k]

/-- R103, R104, R111-R121: the direct page and the effective address of every addressing mode. -/
def Obligations.AddressingModes : Prop :=
  ∀ (s : State) (o : Byte) (m : Word),
    let dp (n : Nat) : Nat := (if s.flags.p then 0x100 else 0) + n % 0x100
    let pointer (n : Byte) : Word × State :=
      let lo := memRead (BitVec.ofNat 16 (dp n.toNat)) s
      let hi := memRead (BitVec.ofNat 16 (dp (n.toNat + 1))) lo.2
      (Word.mk hi.1 lo.1, hi.2)
    (∀ mode n, (mode, n) ∈ [(Mode.dp o, dp o.toNat), (.dpX o, dp (o.toNat + s.x.toNat)),
        (.dpY o, dp (o.toNat + s.y.toNat)), (.indX, dp s.x.toNat), (.indY, dp s.y.toNat), (.abs m, m.toNat),
        (.absX m, (m.toNat + s.x.toNat) % 0x10000), (.absY m, (m.toNat + s.y.toNat) % 0x10000)] →
      (mode.ea s).1.toNat = n ∧ (mode.ea s).2 = s) ∧
    readWordDp o s = pointer o ∧
    (Mode.dpXInd o).ea s = pointer (o + s.x) ∧
    ((Mode.dpIndY o).ea s).1.toNat = ((pointer o).1.toNat + s.y.toNat) % 0x10000 ∧
    ((Mode.dpIndY o).ea s).2 = (pointer o).2

/-! ### Timers -/

/-- R632, R633: a synchronisation counts the multiples of the period passed, modulo 16, while the timer is enabled; two
synchronisations count what one does. It speaks of every two times, also of a time below the last synchronisation, where the
ticks are negative: that is the model's reading of R632's formula (log 10, DEDUCED). -/
def Obligations.TimerSync : Prop :=
  ∀ (rate : Nat) (tm : Timer) (t1 t2 : Nat),
    let q := rate * (if tm.divisor = 0 then 256 else tm.divisor.toNat)
    let synced := tm.sync rate t1
    synced.last = t1 ∧ synced.enabled = tm.enabled ∧ synced.divisor = tm.divisor ∧
    (tm.enabled = false → synced.counter = tm.counter) ∧
    (tm.enabled = true →
      (synced.counter : Int) = ((tm.counter : Int) + ((t1 / q : Nat) : Int) - ((tm.last / q : Nat) : Int)) % 16) ∧
    synced.sync rate t2 = tm.sync rate t2

/-- R635-R637, R642: enabling, the divisor, and the read that clears: two reads return a value and then 0 exactly when no
tick lies between them or the timer is disabled. -/
def Obligations.TimerOperations : Prop :=
  ∀ (rate : Nat) (tm : Timer) (t1 t2 : Nat) (e : Bool) (v : Byte),
    let q := rate * (if tm.divisor = 0 then 256 else tm.divisor.toNat)
    let read := tm.readCounter rate t1
    tm.setEnabled rate t1 e =
      (if e = tm.enabled then tm
       else { tm.sync rate t1 with enabled := e, counter := if e then 0 else (tm.sync rate t1).counter }) ∧
    tm.setDivisor rate t1 v = (if v = tm.divisor then tm else { tm.sync rate t1 with divisor := v }) ∧
    read.1 = BitVec.ofNat 8 (tm.sync rate t1).counter ∧ read.2 = { tm.sync rate t1 with counter := 0 } ∧
    (t1 ≤ t2 → t2 / q - t1 / q < 16 →
      ((read.2.readCounter rate t2).1 = 0 ↔ tm.enabled = false ∨ t2 / q = t1 / q))

/-! ### The status word and the 8-bit functions -/

/-- R36, R37: the packed PSW bit by bit, and each flag unpacked from it; legal flags survive the round trip. -/
def Obligations.PswViews : Prop :=
  ∀ (s : State) (v : Byte),
    let keep := decide (s.params.hibPolicy = .preserve)
    let f := (s.unpackPsw v).flags
    (∀ k bit, (k, bit) ∈ [(7, s.flags.n), (6, s.flags.v), (5, s.flags.p), (4, keep && s.flags.b), (3, keep && s.flags.h),
        (2, keep && s.flags.i), (1, s.flags.z), (0, s.flags.c)] → s.packPsw.getLsbD k = bit) ∧
    f = { n := v.getLsbD 7 && !v.getLsbD 1, v := v.getLsbD 6, p := v.getLsbD 5, b := keep && v.getLsbD 4,
          h := keep && v.getLsbD 3, i := keep && v.getLsbD 2, z := v.getLsbD 1, c := v.getLsbD 0 } ∧
    (s.flagsOk → (s.unpackPsw s.packPsw).flags = s.flags)

/-- R260-R265: the six ALU functions: their results and flags. -/
def Obligations.AluFunctions : Prop :=
  ∀ (d src : Byte) (s : State),
    (∀ op r, (op, r) ∈ [(AluOp.or, d ||| src), (.and, d &&& src), (.eor, d ^^^ src)] →
      (alu op d src s).1 = r ∧
        (alu op d src s).2 = { s with flags := { s.flags with n := r.msb, z := decide (r = 0) } }) ∧
    (∀ op src', (op, src') ∈ [(AluOp.adc, src), (.sbc, ~~~src)] →
      let r := alu op d src s
      r.2 = { s with flags := r.2.flags } ∧ Added 8 s.params d src' s.flags.c.toNat r.1 s.flags r.2.flags) ∧
    aluCmp d src s = { s with flags := (aluCmp d src s).flags } ∧ Compared d src s.flags (aluCmp d src s).flags

/-- R344: with C clear before the addition and set before the subtraction, SBC undoes ADC; with C clear before both the
result is one less. -/
def Obligations.SubtractUndoesAdd : Prop :=
  ∀ (x y : Byte) (s u : State), s.flags.c = false →
    (alu .sbc (alu .adc x y s).1 y u).1 = if u.flags.c then x else x - 1

/-- R350-R355: the six one-operand functions: result, carry, N and Z. -/
def Obligations.RmwFunctions : Prop :=
  ∀ (v : Byte) (s : State),
    let c := s.flags.c.toNat
    ∀ op n carry, (op, n, carry) ∈ [(RmwOp.asl, 2 * v.toNat % 256, v.getLsbD 7),
        (.rol, (2 * v.toNat + c) % 256, v.getLsbD 7), (.lsr, v.toNat / 2, v.getLsbD 0),
        (.ror, v.toNat / 2 + 128 * c, v.getLsbD 0), (.inc, (v.toNat + 1) % 256, s.flags.c),
        (.dec, (v.toNat + 255) % 256, s.flags.c)] →
      (rmwFn op v s).1.toNat = n ∧
        (rmwFn op v s).2 =
          { s with flags := { s.flags with n := decide (n ≥ 128), z := decide (n = 0), c := carry } }

/-! ### Instructions: what each form does, for every operand and every state -/

/-- R200-R217. A load puts the source's byte in its register and sets N and Z from it; `(X)+` then increments X. -/
def Obligations.LoadsRun : Prop :=
  ∀ b1 b2 : Byte, ∀ f ∈ loadForms b1 b2, f.Encoded ∧ ∀ s : State,
    let src := f.shape.src.read s
    ∃ t, exec f.instr s = .next t ∧
      (∀ r, t.reg r =
        if r = f.shape.reg then src.1 else if r = .x ∧ f.shape.inc = true then s.x + 1 else s.reg r) ∧
      t.flags = { s.flags with n := src.1.msb, z := decide (src.1 = 0) } ∧
      t.sp = s.sp ∧ Steady s t ∧ ReadOnly s t ∧ SameDevices src.2 t

/-- R218-R232. A store writes its register to the effective address, reads no destination and sets no flag; `(X)+` then
increments X. -/
def Obligations.StoresRun : Prop :=
  ∀ b1 b2 : Byte, ∀ f ∈ storeForms b1 b2, f.Encoded ∧ ∀ s : State,
    let ea := f.shape.dst.ea s
    ∃ t, exec f.instr s = .next t ∧
      Stored ea.1 (s.reg f.shape.reg) ea.2 t ∧ ReadOnly s ea.2 ∧
      (∀ r, t.reg r = if r = .x ∧ f.shape.inc = true then s.x + 1 else s.reg r) ∧
      t.flags = s.flags ∧ t.sp = s.sp ∧ Steady s t

/-- R233-R238, R384. A register move, or XCN, writes one register and sets N and Z from it; MOV SP, X sets no flag. -/
def Obligations.MovesRun : Prop :=
  (∀ f ∈ moveForms, f.Encoded ∧ ∀ s : State,
    ∃ t, exec f.instr s = .next t ∧
      (∀ r, t.reg r = if r = f.shape.reg then f.shape.value s else s.reg r) ∧
      t.flags = { s.flags with n := (f.shape.value s).msb, z := decide (f.shape.value s = 0) } ∧
      t.sp = s.sp ∧ Steady s t ∧ SameDevices s t) ∧
  ∀ f ∈ moveToSpForm, f.Encoded ∧ ∀ s : State,
    ∃ t, exec f.instr s = .next t ∧
      t.sp = s.x ∧ SameRegs s t ∧ t.flags = s.flags ∧ Steady s t ∧ SameDevices s t

/-- R239, R240. MOV dd, ss and MOV dp, #imm write one direct-page byte and set no flag. -/
def Obligations.MoveBytesRun : Prop :=
  ∀ b1 b2 : Byte, ∀ f ∈ moveByteForms b1 b2, f.Encoded ∧ ∀ s : State,
    let src := f.shape.src.read s
    ∃ t, exec f.instr s = .next t ∧
      Stored (dpAddr f.shape.offset s) src.1 src.2 t ∧ ReadOnly s src.2 ∧
      SameRegs s t ∧ t.flags = s.flags ∧ t.sp = s.sp ∧ Steady s t

/-- R266-R301. OR, AND and EOR. -/
def Obligations.LogicRuns : Prop :=
  ∀ b1 b2 : Byte,
    (∀ f ∈ orForms b1 b2, AluRuns .or f) ∧ (∀ f ∈ andForms b1 b2, AluRuns .and f) ∧
      ∀ f ∈ eorForms b1 b2, AluRuns .eor f

/-- R314-R325. ADC. -/
def Obligations.AdcRuns : Prop := ∀ b1 b2 : Byte, ∀ f ∈ adcForms b1 b2, AluRuns .adc f

/-- R326-R337. SBC. -/
def Obligations.SbcRuns : Prop := ∀ b1 b2 : Byte, ∀ f ∈ sbcForms b1 b2, AluRuns .sbc f

/-- R302-R313, R338-R343. CMP: C is no borrow, N and Z are those of the difference, nothing else changes. -/
def Obligations.ComparesRun : Prop :=
  ∀ b1 b2 : Byte, (∀ f ∈ cmpForms b1 b2, CmpRuns f) ∧ ∀ f ∈ cmpXYForms b1 b2, CmpRuns f

/-- R356-R371. ASL, ROL, LSR and ROR. -/
def Obligations.ShiftsRun : Prop :=
  ∀ b1 b2 : Byte, (∀ f ∈ leftShiftForms b1 b2, RmwRuns f) ∧ ∀ f ∈ rightShiftForms b1 b2, RmwRuns f

/-- R372-R383. DEC and INC. -/
def Obligations.IncDecRuns : Prop := ∀ b1 b2 : Byte, ∀ f ∈ incDecForms b1 b2, RmwRuns f

/-- R393, R394. MOVW YA, dp loads the pair and sets N and Z from the word; MOVW dp, YA stores A, then Y, and sets none. -/
def Obligations.MovwRuns : Prop :=
  ∀ b1 : Byte, ∀ f ∈ movwForms b1, f.Encoded ∧ ∀ s : State,
    let w := readWordDp b1 s
    ∃ t, exec f.instr s = .next t ∧ t.x = s.x ∧ t.sp = s.sp ∧ Steady s t ∧
      if f.shape = true then
        t.a = w.1.lo ∧ t.y = w.1.hi ∧ t.flags = { s.flags with n := w.1.msb, z := decide (w.1 = 0) } ∧
          ReadOnly s t ∧ SameDevices w.2 t
      else
        StoredTwo (dpAddr b1 s) s.a (dpAddr (b1 + 1) s) s.y s t ∧ t.a = s.a ∧ t.y = s.y ∧ t.flags = s.flags

/-- R395, R396. INCW and DECW change the direct-page word by one and set N and Z from it. -/
def Obligations.IncwRuns : Prop :=
  ∀ b1 : Byte, ∀ f ∈ incwForms b1, f.Encoded ∧ ∀ s : State,
    let w := readWordDp b1 s
    let r := f.shape w.1
    ∃ t, exec f.instr s = .next t ∧
      StoredTwo (dpAddr b1 s) r.lo (dpAddr (b1 + 1) s) r.hi w.2 t ∧ ReadOnly s w.2 ∧
      t.flags = { s.flags with n := r.msb, z := decide (r = 0) } ∧ SameRegs s t ∧ t.sp = s.sp ∧ Steady s t

/-- R397-R399 with R390 and R391. ADDW and SUBW add the word or its complement with the 16-bit carry-in; CMPW compares. -/
def Obligations.WordArithmeticRuns : Prop :=
  ∀ b1 : Byte, ∀ f ∈ wordForms b1, f.Encoded ∧ ∀ s : State,
    let w := readWordDp b1 s
    let carry (otherwise : Nat) : Nat := if s.params.wordCarryIn then s.flags.c.toNat else otherwise
    ∃ t, exec f.instr s = .next t ∧ t.x = s.x ∧ t.sp = s.sp ∧ Steady s t ∧ ReadOnly s t ∧ SameDevices w.2 t ∧
      match f.shape with
      | .add => Added 16 s.params s.ya w.1 (carry 0) t.ya s.flags t.flags
      | .subtract => Added 16 s.params s.ya (~~~w.1) (carry 1) t.ya s.flags t.flags
      | .compare => Compared s.ya w.1 s.flags t.flags ∧ t.ya = s.ya

/-- R400, R401 with R392. MUL puts Y * A in YA and sets N and Z from Y. DIV divides YA by X; V tells that Y was not below X,
and then the quotient and remainder are those of the parameter DIV_OVERFLOW; N and Z are A's. The last part is the default of
that parameter. -/
def Obligations.MulDivRun : Prop :=
  (∀ f ∈ mulForm, f.Encoded ∧ ∀ s : State,
    ∃ t, exec f.instr s = .next t ∧ t.ya.toNat = s.y.toNat * s.a.toNat ∧
      t.flags = { s.flags with n := t.y.msb, z := decide (t.y = 0) } ∧
      t.x = s.x ∧ t.sp = s.sp ∧ Steady s t ∧ SameDevices s t) ∧
  (∀ f ∈ divForm, f.Encoded ∧ ∀ s : State,
    let ya := s.ya.toNat
    let x := s.x.toNat
    let q := if s.y < s.x then ya / x else (s.params.divOverflow s.ya s.x).1
    let r := if s.y < s.x then ya % x else (s.params.divOverflow s.ya s.x).2
    ∃ t, exec f.instr s = .next t ∧ t.a.toNat = q % 256 ∧ t.y.toNat = r % 256 ∧
      t.flags.v = decide (s.x ≤ s.y) ∧ t.flags.n = t.a.msb ∧ t.flags.z = decide (t.a = 0) ∧
      (s.params.flagProfile = .spcjs → t.flags.h = s.flags.h) ∧
      (s.params.flagProfile = .hardware → s.params.hibPolicy = .preserve →
        t.flags.h = decide (s.x.toNat % 16 ≤ s.y.toNat % 16)) ∧
      t.flags.p = s.flags.p ∧ t.flags.b = s.flags.b ∧ t.flags.i = s.flags.i ∧ t.flags.c = s.flags.c ∧
      t.x = s.x ∧ t.sp = s.sp ∧ Steady s t ∧ SameDevices s t) ∧
  ∀ (w : Word) (b : Byte), b ≤ w.hi →
    let ya := w.toNat
    let x := b.toNat
    Params.standard.divOverflow w b =
      if w.hi.toNat ≥ 2 * x then (255 - (ya - 512 * x) / (256 - x), x + (ya - 512 * x) % (256 - x))
      else (ya / x, ya % x)

/-- R412-R420 with R410. A branch on a flag, and BRA. -/
def Obligations.BranchesRun : Prop :=
  ∀ b1 : Byte, ∀ f ∈ branchForms b1, f.Encoded ∧ ∀ s : State,
    ∃ t, exec f.instr s = .next t ∧ Branched (f.shape s.flags) b1 s t ∧
      SameRegs s t ∧ t.flags = s.flags ∧ t.sp = s.sp ∧ SameDevices s t

/-- R421-R436 with R410. BBS and BBC read one direct-page byte and branch on one bit of it. -/
def Obligations.BitBranchesRun : Prop :=
  ∀ b1 b2 : Byte, ∀ f ∈ bitBranchForms b1 b2, f.Encoded ∧ ∀ s : State,
    let m := memRead (dpAddr b1 s) s
    ∃ t, exec f.instr s = .next t ∧ Branched (m.1.getLsbD f.shape.bit == f.shape.value) b2 s t ∧
      SameRegs s t ∧ t.flags = s.flags ∧ t.sp = s.sp ∧ ReadOnly s t ∧ SameDevices m.2 t

/-- R437-R440 with R410. CBNE branches when A differs from a byte; DBNZ lowers a byte or Y by one and branches when the
result is not 0. Neither sets a flag. -/
def Obligations.CountedBranchesRun : Prop :=
  (∀ b1 b2 : Byte, ∀ f ∈ cbneForms b1 b2, f.Encoded ∧ ∀ s : State,
    let m := (Source.mem f.shape).read s
    ∃ t, exec f.instr s = .next t ∧ Branched (decide (s.a ≠ m.1)) b2 s t ∧
      SameRegs s t ∧ t.flags = s.flags ∧ t.sp = s.sp ∧ ReadOnly s t ∧ SameDevices m.2 t) ∧
  ∀ b1 b2 : Byte, ∀ f ∈ dbnzForms b1 b2, f.Encoded ∧ ∀ s : State,
    let m := memRead (dpAddr b1 s) s
    ∃ t, exec f.instr s = .next t ∧ t.a = s.a ∧ t.x = s.x ∧ t.flags = s.flags ∧ t.sp = s.sp ∧
      if f.shape = true then
        Branched (decide (m.1 - 1 ≠ 0)) b2 s t ∧ Stored (dpAddr b1 s) (m.1 - 1) m.2 t ∧ ReadOnly s m.2 ∧ t.y = s.y
      else Branched (decide (s.y - 1 ≠ 0)) b1 s t ∧ t.y = s.y - 1 ∧ SameDevices s t

/-- R441-R444, R461. JMP, CALL and PCALL: the target, and for the calls PC pushed, high byte first; RET pops it. -/
def Obligations.JumpsRun : Prop :=
  (∀ b1 b2 : Byte, ∀ f ∈ jumpForms b1 b2, f.Encoded ∧ ∀ s : State,
    ∃ t, exec f.instr s = .next t ∧ SameRegs s t ∧ t.flags = s.flags ∧
      t.time = s.time ∧ t.halted = s.halted ∧ SameMachine s t ∧
      (match f.shape.target with
        | .direct a => t.pc = a
        | .indirectX a =>
          let p := a + s.x.setWidth 16
          let lo := memRead p s
          let hi := memRead (p + 1) lo.2
          t.pc = Word.mk hi.1 lo.1 ∧ ReadOnly s t ∧ SameDevices hi.2 t) ∧
      (match f.shape.target, f.shape.call with
        | .direct _, true => Pushed [s.pc.hi, s.pc.lo] s t
        | .direct _, false => t.sp = s.sp ∧ SameDevices s t
        | .indirectX _, _ => t.sp = s.sp)) ∧
  ∀ f ∈ retForm, f.Encoded ∧ ∀ s : State,
    ∃ t, exec f.instr s = .next t ∧ t.pc = Word.mk (s.peek (stackByte s 2)) (s.peek (stackByte s 1)) ∧
      t.sp = s.sp + 2 ∧ SameRegs s t ∧ t.flags = s.flags ∧ t.time = s.time ∧ t.halted = s.halted ∧
      SameMachine s t ∧ SameDevices s t

/-- R445-R460 with R125 and R411. TCALL n pushes PC and jumps through the vector at 0xFFDE - 2n, which the push cannot
touch. -/
def Obligations.TableCallsRun : Prop :=
  ∀ f ∈ tcallForms, f.Encoded ∧ ∀ s : State,
    let vector : Word := BitVec.ofNat 16 (0xFFDE - 2 * f.shape)
    ∃ t, exec f.instr s = .next t ∧ t.pc = Word.mk (s.peek (vector + 1)) (s.peek vector) ∧
      Pushed [s.pc.hi, s.pc.lo] s t ∧
      SameRegs s t ∧ t.flags = s.flags ∧ t.time = s.time ∧ t.halted = s.halted ∧ SameMachine s t

/-- R462-R469 with R106 and R107. PUSH and POP of A, X, Y and the PSW. -/
def Obligations.PushPopRun : Prop :=
  (∀ f ∈ pushForms, f.Encoded ∧ ∀ s : State,
    ∃ t, exec f.instr s = .next t ∧ Pushed [f.shape s] s t ∧ SameRegs s t ∧ t.flags = s.flags ∧ Steady s t) ∧
  ∀ f ∈ popForms, f.Encoded ∧ ∀ s : State,
    let v := s.peek (stackByte s 1)
    ∃ t, exec f.instr s = .next t ∧ t.sp = s.sp + 1 ∧
      (∀ r, t.reg r = if f.shape = some r then v else s.reg r) ∧
      t.flags = (if f.shape = none then (s.unpackPsw v).flags else s.flags) ∧ Steady s t ∧ SameDevices s t

/-- R470-R485. SET1 and CLR1 read one direct-page byte and write it with one bit set or cleared. -/
def Obligations.BitWritesRun : Prop :=
  ∀ b1 : Byte, ∀ f ∈ bitForms b1, f.Encoded ∧ ∀ s : State,
    let m := memRead (dpAddr b1 s) s
    ∃ t v, exec f.instr s = .next t ∧ Stored (dpAddr b1 s) v m.2 t ∧ ReadOnly s m.2 ∧
      (∀ k, k < 8 → v.getLsbD k = if k = f.shape.bit.val then f.shape.value else m.1.getLsbD k) ∧
      SameRegs s t ∧ t.flags = s.flags ∧ t.sp = s.sp ∧ Steady s t

/-- R486, R487. TSET1 and TCLR1: N and Z from A - m, the byte written with A's bits set or cleared. -/
def Obligations.TestBitsRun : Prop :=
  ∀ b1 b2 : Byte, ∀ f ∈ testForms b1 b2, f.Encoded ∧ ∀ s : State,
    let m := memRead (Word.mk b2 b1) s
    ∃ t, exec f.instr s = .next t ∧ Stored (Word.mk b2 b1) (f.shape m.1 s.a) m.2 t ∧ ReadOnly s m.2 ∧
      t.flags = { s.flags with n := (s.a - m.1).msb, z := decide (s.a = m.1) } ∧
      SameRegs s t ∧ t.sp = s.sp ∧ Steady s t

/-- R488-R493. CLRC, SETC, NOTC, CLRP, SETP and NOP: the flag each one writes and nothing else. -/
def Obligations.FlagInstructionsRun : Prop :=
  ∀ f ∈ flagForms, f.Encoded ∧ ∀ s : State,
    ∃ t, exec f.instr s = .next t ∧ t.flags = f.shape s.flags ∧
      SameRegs s t ∧ t.sp = s.sp ∧ Steady s t ∧ SameDevices s t

/-- R509-R511. CLRV, EI and DI: the flags each one writes and nothing else. That EI leaves I at 0 under
PSW_HIB_POLICY = zero is the model's reading of R38 (log 9). -/
def Obligations.HiddenFlagInstructionsRun : Prop :=
  ∀ f ∈ hibForms, f.Encoded ∧ ∀ s : State,
    ∃ t, exec f.instr s = .next t ∧ t.flags = f.shape (decide (s.params.hibPolicy = .preserve)) s.flags ∧
      SameRegs s t ∧ t.sp = s.sp ∧ Steady s t ∧ SameDevices s t

/-- R501-R508 with R500. The memory-bit instructions: the address is 13 bits, the bit number the top three bits of b2. The
first six write C only; MOV1 m.b, C and NOT1 write one bit of the byte. -/
def Obligations.MemoryBitsRun : Prop :=
  ∀ b1 b2 : Byte,
    let addr : Word := Word.mk b2 b1 &&& 0x1FFF
    let n := b2.toNat / 32
    (∀ f ∈ carryForms b1 b2, f.Encoded ∧ ∀ s : State,
      let m := memRead addr s
      ∃ t, exec f.instr s = .next t ∧ t.flags = { s.flags with c := f.shape s.flags.c (m.1.getLsbD n) } ∧
        SameRegs s t ∧ t.sp = s.sp ∧ Steady s t ∧ ReadOnly s t ∧ SameDevices m.2 t) ∧
    ∀ f ∈ storeBitForms b1 b2, f.Encoded ∧ ∀ s : State,
      let m := memRead addr s
      ∃ t v, exec f.instr s = .next t ∧ Stored addr v m.2 t ∧ ReadOnly s m.2 ∧
        (∀ k, k < 8 → v.getLsbD k = if k = n then f.shape s.flags.c (m.1.getLsbD n) else m.1.getLsbD k) ∧
        SameRegs s t ∧ t.flags = s.flags ∧ t.sp = s.sp ∧ Steady s t

/-- R512, R513. DAA and DAS, for a machine whose H is legal under PSW_HIB_POLICY (R38): the second test reads A after the
first adjustment. -/
def Obligations.DecimalAdjustsRun : Prop :=
  ∀ f ∈ decimalForms, f.Encoded ∧ ∀ s : State, s.flagsOk →
    let high := if f.shape then s.flags.c || decide (s.a.toNat > 0x99) else !s.flags.c || decide (s.a.toNat > 0x99)
    let a1 : Byte := if high then (if f.shape then s.a + 0x60 else s.a - 0x60) else s.a
    let low := (if f.shape then s.flags.h else !s.flags.h) || decide (a1.toNat % 16 > 9)
    let a2 : Byte := if low then (if f.shape then a1 + 6 else a1 - 6) else a1
    ∃ t, exec f.instr s = .next t ∧ t.a = a2 ∧
      t.flags =
        { s.flags with c := if high then f.shape else s.flags.c, n := a2.msb, z := decide (a2 = 0) } ∧
      t.x = s.x ∧ t.y = s.y ∧ t.sp = s.sp ∧ Steady s t ∧ SameDevices s t

/-- R514, R515, R607, R608. BRK pushes PC and the PSW as it was, sets B, clears I and jumps through the TCALL 0 vector; RETI
pops the PSW, then PC. That B stays 0 under PSW_HIB_POLICY = zero is the model's reading of R38 (log 9). -/
def Obligations.BreakAndReturnRun : Prop :=
  ∀ f ∈ breakForms, f.Encoded ∧ ∀ s : State,
    ∃ t, exec f.instr s = .next t ∧ SameRegs s t ∧ t.time = s.time ∧ t.halted = s.halted ∧ SameMachine s t ∧
      if f.shape = true then
        t.pc = Word.mk (s.peek 0xFFDF) (s.peek 0xFFDE) ∧ Pushed [s.pc.hi, s.pc.lo, s.packPsw] s t ∧
          t.flags = { s.flags with b := decide (s.params.hibPolicy = .preserve), i := false }
      else
        t.pc = Word.mk (s.peek (stackByte s 3)) (s.peek (stackByte s 2)) ∧ t.sp = s.sp + 3 ∧
          t.flags = (s.unpackPsw (s.peek (stackByte s 1))).flags ∧ SameDevices s t

/-- R516, R517. SLEEP and STOP halt the CPU and do nothing else. -/
def Obligations.HaltsRun : Prop :=
  ∀ f ∈ haltForms, f.Encoded ∧ ∀ s : State,
    ∃ t, exec f.instr s = .next t ∧ t.halted = true ∧ SameRegs s t ∧ t.flags = s.flags ∧ t.sp = s.sp ∧
      t.pc = s.pc ∧ t.time = s.time ∧ SameMachine s t ∧ SameDevices s t

/-! ### The DSP -/

/-- R772-R774: the start of a sample: the flag flips, a latch sample captures and clears KON and KOF, and the rate counter
steps down. -/
def Obligations.SampleBegins : Prop :=
  ∀ s : State,
    let t := stepRateCounter (latchKeys s)
    t = { s with
          everyOther := !s.everyOther, konLatch := t.konLatch, kofLatch := t.kofLatch, dspRegs := t.dspRegs,
          rateCounter := if s.rateCounter = 0 then 30719 else s.rateCounter - 1 } ∧
    (s.everyOther = true → t.konLatch = s.konLatch ∧ t.kofLatch = s.kofLatch ∧ t.dspRegs = s.dspRegs) ∧
    (s.everyOther = false → t.konLatch = s.dspRegs[0x4C] ∧ t.kofLatch = s.dspRegs[0x5C] ∧
      ∀ k : Fin 128, t.dspRegs[k] = if k = 0x4C ∨ k = 0x5C then 0 else s.dspRegs[k])

/-- R702, R715, R672: the key-on delay, which restarts the voice at its source's start address with a header of 0, and the
key-on and key-off of a latch sample, where key-on wins. -/
def Obligations.KeyOn : Prop :=
  ∀ (s : State) (v : Fin 8) (vo : Voice),
    let r := keyOnDelay s v { vo := vo, hdr := s.peek vo.brrAddr, pitch := s.voicePitch v }
    let entry : Word := BitVec.ofNat 16 ((s.dspReg 0x5D).toNat * 256 + 4 * (s.voiceReg v 4).toNat)
    (vo.konDelay = 0 → r = { vo := vo, hdr := s.peek vo.brrAddr, pitch := s.voicePitch v }) ∧
    (∀ d, vo.konDelay = d + 1 → d ≤ 4 →
      r.pitch = 0 ∧ r.hdr = (if d = 4 then 0 else s.peek vo.brrAddr) ∧
      r.vo =
        { vo with
          konDelay := d, env := 0, pend := 0, interp := if d = 1 ∨ d = 2 ∨ d = 3 then 0x4000 else 0
          brrAddr := if d = 4 then Word.mk (s.peek (entry + 1)) (s.peek entry) else vo.brrAddr
          brrOff := if d = 4 then 0 else vo.brrOff
          wpos := if d = 4 then 0 else vo.wpos }) ∧
    keyOnOff s v vo =
      (if s.everyOther ∧ s.konLatch.getLsbD v then { vo with konDelay := 5, mode := .attack }
       else if s.everyOther ∧ s.kofLatch.getLsbD v then { vo with mode := .release }
       else vo)

/-- R720-R728: the envelope step of a voice with its registers `a1` (ADSR1) and `a2` (ADSR2), under RATE_FIRES of the
setting. R731: the default of RATE_FIRES, by the columns PERIOD and OFFSET of its table, and how often each rate
fires in a cycle of the counter. -/
def Obligations.EnvelopeStep : Prop :=
  (let period (rate : Nat) : Nat :=
      ([0, 2048, 1536, 1280, 1024, 768, 640, 512, 384, 320, 256, 192, 160, 128, 96, 80, 64, 48, 40, 32, 24, 20, 16, 12, 10, 8,
        6, 5, 4, 3, 2, 1] : List Nat).getD rate 0
    let offset (rate : Nat) : Nat :=
      if rate ≥ 30 ∨ rate % 3 = 1 then 0 else if rate % 3 = 2 then 1040 else 536
    ∀ rate, rate < 32 →
      (∀ c, Params.standard.rateFires rate c = decide (rate ≠ 0 ∧ (c + offset rate) % period rate = 0)) ∧
      (rate ≠ 0 → 30720 % period rate = 0 ∧
        (List.range 30720).countP (Params.standard.rateFires rate) = 30720 / period rate)) ∧
  ∀ (s : State) (v : Fin 8) (vo : Voice), vo.env ≤ 0x7FF →
    let a1 := (s.voiceReg v 5).toNat
    let a2 := (s.voiceReg v 6).toNat
    let fires (rate : Nat) : Bool := s.params.rateFires rate s.rateCounter
    let down := vo.env - 1 - (vo.env - 1) / 256
    (vo.konDelay ≠ 0 → envelopeStep s v vo = .ok vo) ∧
    (vo.konDelay = 0 → vo.mode = .release → envelopeStep s v vo = .ok
      (if vo.env ≤ 8 then { vo with env := 0, pend := 0, brrAddr := 0, brrOff := 0 }
       else { vo with env := vo.env - 8, pend := vo.env - 8 })) ∧
    (vo.konDelay = 0 → vo.mode ≠ .release → a1 < 128 → envelopeStep s v vo = .error .gain) ∧
    (vo.konDelay = 0 → vo.mode = .attack → 128 ≤ a1 →
      let rate := a1 % 16 * 2 + 1
      let up := vo.env + if rate = 31 then 0x400 else 0x20
      envelopeStep s v vo = .ok
        { vo with
          mode := if up > 0x7FF then .decay else .attack, pend := min up 0x7FF
          env := if fires rate then min up 0x7FF else vo.env }) ∧
    (vo.konDelay = 0 → vo.mode = .decay → 128 ≤ a1 → envelopeStep s v vo = .ok
      { vo with
        mode := if down / 256 = a2 / 32 then .sustain else .decay, pend := down
        env := if fires (a1 / 16 % 8 * 2 + 16) then down else vo.env }) ∧
    (vo.konDelay = 0 → vo.mode = .sustain → 128 ≤ a1 → envelopeStep s v vo = .ok
      { vo with pend := down, env := if fires (a2 % 32) then down else vo.env })

/-- R710, R712, R721: when a voice step ends in a fault, and which: noise before echo before pitch modulation, on a sounding
voice only, and all of them before GAIN. -/
def Obligations.UnsupportedFeatures : Prop :=
  ∀ (s : State) (v : Fin 8),
    let vo := (keyOnDelay s v (voiceFetch s v)).vo
    let bit (k : Byte) : Bool := (s.dspReg k).getLsbD v
    let sounding := vo.env ≠ 0
    let gain := (keyOnOff s v vo).konDelay = 0 ∧ (keyOnOff s v vo).mode ≠ .release ∧ (s.voiceReg v 5).getLsbD 7 = false
    match voiceStep s v with
    | .unsupported .noise _ => sounding ∧ bit 0x3D = true
    | .unsupported .echo _ => sounding ∧ bit 0x3D = false ∧ bit 0x4D = true
    | .unsupported .pitchmod _ => sounding ∧ bit 0x3D = false ∧ bit 0x4D = false ∧ bit 0x2D = true
    | .unsupported .gain _ =>
      (sounding → bit 0x3D = false ∧ bit 0x4D = false ∧ bit 0x2D = false) ∧ gain
    | .done _ l r =>
      (sounding → bit 0x3D = false ∧ bit 0x4D = false ∧ bit 0x2D = false) ∧ ¬ gain ∧
        (¬ sounding → l = 0 ∧ r = 0)

/-- R713, R714: the interpolated sample of every voice under GAUSS of the setting, from four samples inside the ring, and the
voice's pair. R741, R777: the default GAUSS is non-decreasing with the end values of R741, its four weights sum to 2047..2049
at every fraction, and so the interpolated sample of a legal voice and its pair are bounded. -/
def Obligations.InterpolationBounds : Prop :=
  (∀ (s : State) (v : Fin 8) (vo : Voice),
    let weight (k : Nat) : Int := s.params.gauss[k]?.getD 0
    let o := vo.interp / 16 % 256
    let i := vo.wpos + vo.interp / 4096
    let g := (weight (255 - o) * vo.slot i + weight (511 - o) * vo.slot (i + 1) +
      weight (256 + o) * vo.slot (i + 2) + weight o * vo.slot (i + 3)) / 2048
    let out := g * vo.env / 2048
    interpolate s.params vo = g ∧
      voiceMix s v vo = (out * (s.voiceReg v 0).toInt, out * (s.voiceReg v 1).toInt) ∧
      (vo.wpos < 12 → vo.interp ≤ 0x7FFF → i + 3 < 24)) ∧
  (let weight := Params.standard.weight;
    weight 0 = 0 ∧ weight 255 = 370 ∧ weight 256 = 374 ∧ weight 511 = 1305 ∧
      (∀ k, k < 511 → weight k ≤ weight (k + 1)) ∧
      ∀ o, o < 256 → 2047 ≤ weight (255 - o) + weight (511 - o) + weight (256 + o) + weight o ∧
        weight (255 - o) + weight (511 - o) + weight (256 + o) + weight o ≤ 2049) ∧
  ∀ (s : State) (v : Fin 8) (vo : Voice), s.params.gauss = Params.standard.gauss → vo.Ok →
    |interpolate s.params vo| < 32785 ∧ |(voiceMix s v vo).1| ≤ 32785 * 128 ∧ |(voiceMix s v vo).2| ≤ 32785 * 128

/-- R751-R753, R755, R756, R760: a nibble's sample is its base value plus the filter's terms, clamped, doubled and wrapped,
and is stored twice. A block-step stores four samples, the high nibble of each byte first; with filter 0 and shift 0 each is
twice the floored half of its nibble; at the block's end the voice moves on, loops or is torn down. -/
def Obligations.BlockStep : Prop :=
  (∀ (hdr : Byte) (nibble : Nat) (vo : Voice), nibble < 16 → vo.wpos < 12 →
    let t := brrNibble hdr nibble vo
    let shift := hdr.toNat / 16
    let filter := hdr.toNat / 4 % 4
    let n : Int := if nibble < 8 then nibble else nibble - 16
    let base : Int := if shift ≤ 12 then n * 2 ^ shift / 2 else if n < 0 then -2048 else 0
    let p1 := vo.slot (vo.wpos + 11)
    let p2 := vo.slot (vo.wpos + 10) / 2
    let added : Int :=
      if filter = 0 then 0
      else if filter = 1 then p1 / 2 + -p1 / 32
      else if filter = 2 then p1 - p2 + p2 / 16 + p1 * -3 / 64
      else p1 - p2 + p1 * -13 / 128 + p2 * 3 / 16
    let d := (max (-32768) (min 32767 (base + added)) * 2 + 0x8000) % 0x10000 - 0x8000
    t.slot vo.wpos = d ∧ t.slot (vo.wpos + 12) = d ∧ t.wpos = vo.wpos + 1 ∧
      ∀ i, i ≠ vo.wpos → i ≠ vo.wpos + 12 → t.slot i = vo.slot i) ∧
  ∀ (s : State) (v : Fin 8) (hdr : Byte) (vo : Voice), vo.Ok →
    let t := blockStep s v hdr vo
    let d1 := (s.peek (vo.brrAddr + BitVec.ofNat 16 (vo.brrOff + 1))).toNat
    let d2 := (s.peek (vo.brrAddr + BitVec.ofNat 16 (vo.brrOff + 2))).toNat
    let raw (n : Nat) : Int := 2 * ((if n < 8 then (n : Int) else (n : Int) - 16) / 2)
    let ended := hdr.getLsbD 0
    let looped := hdr.getLsbD 1
    t.wpos = (vo.wpos + 4) % 12 ∧ t.konDelay = vo.konDelay ∧ t.interp = vo.interp ∧
    (∀ k, k < 12 → (k < vo.wpos ∨ vo.wpos + 4 ≤ k) → t.slot k = vo.slot k) ∧
    (hdr &&& 0xFC = 0 → t.slot vo.wpos = raw (d1 / 16) ∧ t.slot (vo.wpos + 1) = raw (d1 % 16) ∧
      t.slot (vo.wpos + 2) = raw (d2 / 16) ∧ t.slot (vo.wpos + 3) = raw (d2 % 16)) ∧
    (vo.brrOff < 6 → t.brrOff = vo.brrOff + 2 ∧ t.brrAddr = vo.brrAddr ∧ t.mode = vo.mode ∧ t.env = vo.env ∧
      t.pend = vo.pend) ∧
    (vo.brrOff = 6 → t.brrOff = 0 ∧
      (ended = false → t.brrAddr = vo.brrAddr + 9) ∧
      (ended = true → looped = true → t.brrAddr = s.sampleLoop v) ∧
      (ended = true → looped = false → t.brrAddr = 0 ∧ t.mode = .release ∧ t.env = 0 ∧ t.pend = 0) ∧
      (ended = false ∨ looped = true → t.mode = vo.mode ∧ t.env = vo.env ∧ t.pend = vo.pend))

/-- R700, R701, R710, R742: a voice step that meets no unsupported feature: the header and the pitch of part 1, the pair from
the voice as part 2 leaves it, then key-on and key-off and the envelope step; the accumulator moves by the pitch, and one
block-step with the header of part 1 runs exactly when it was at 0x4000 or above. Where the envelope step tears the voice down,
that header is not the one at the address decoded: the model's reading (log 15, DEDUCED).
R775, R776, R770: where no voice meets an unsupported feature, a sample steps each voice from the state the sample began
with, and returns the clamped mix of their pairs. -/
def Obligations.SampleMixes : Prop :=
  (∀ (s : State) (v : Fin 8) (vo : Voice) (l r : Int), voiceStep s v = .done vo l r →
    let pitch := ((s.voiceReg v 3).toNat * 256 + (s.voiceReg v 2).toNat) % 0x4000
    let run := keyOnDelay s v { vo := s.voices[v], hdr := s.peek s.voices[v].brrAddr, pitch := pitch }
    (l, r) = (if run.vo.env = 0 then (0, 0) else voiceMix s v run.vo) ∧
    ∃ w, envelopeStep s v (keyOnOff s v run.vo) = .ok w ∧
      let moved := { w with interp := min (w.interp % 0x4000 + run.pitch) 0x7FFF }
      vo = if 0x4000 ≤ w.interp then blockStep s v run.hdr moved else moved) ∧
  ∀ (s : State) (vos : Fin 8 → Voice) (l r : Fin 8 → Int),
    let u := stepRateCounter (latchKeys s)
    (∀ v, voiceStep u v = .done (vos v) (l v) (r v)) →
    let mixed (sum : Int) (volume : Byte) : Int := max (-32768) (min 32767 (sum * volume.toInt / 2 ^ 14))
    ∃ t fl fr, dspSample s = .next t ∧ t.frame = some (fl, fr) ∧ t.phase = .idle ∧
      fl.toInt = mixed (∑ v, l v) (u.dspReg 0x0C) ∧ fr.toInt = mixed (∑ v, r v) (u.dspReg 0x1C) ∧
      (∀ v : Fin 8, t.voices[v] = vos v) ∧
      t = { u with voices := t.voices, frame := t.frame, phase := .idle }

/-! ### The whole machine -/

/-- R35, R38, R51, R53, R727, R730, R771: every step keeps the invariant: RAM in its canonical form, legal flags, counters,
voices and rate counter in their ranges, and the time at most 11 cycles behind the target between runs. -/
def Obligations.StepKeepsInvariant : Prop :=
  ∀ s t : State, s.Inv → step s = .next t → t.Inv

/-- The state after reset meets the invariant. -/
def Obligations.ResetMeetsInvariant : Prop := State.reset.Inv

/-- R8, R781: a step never changes the parameters, and from a legal state the time and the target never regress. -/
def Obligations.TimeNeverRegresses : Prop :=
  ∀ s t : State, s.Inv → step s = .next t →
    t.params = s.params ∧ s.time ≤ t.time ∧
      t.target = (if s.phase = .idle then s.target + 32 else s.target)

/-- R802-R809, R56: the default of SNAPSHOT_SIGNATURE; `load` rejects a short snapshot before a wrong signature, and otherwise
builds every piece of state from the snapshot; what it builds meets the invariant. -/
def Obligations.LoadBuildsState : Prop :=
  Params.standard.signature.toList =
      ("SNES-SPC700 Sound File Data v0.30".toList.map fun ch => (BitVec.ofNat 8 ch.toNat : Byte)) ++ [0x1A, 0x1A, 0x1A, 0x1E] ∧
  ∀ (p : Params) (snap : List Byte),
    let byte (i : Nat) : Byte := snap.getD i 0
    (snap.length < 0x10180 → loadSnapshot p snap = .fault (.snapshotRejected .tooShort)) ∧
    (0x10180 ≤ snap.length → (∃ i : Fin 37, byte i ≠ p.signature[i]) →
      loadSnapshot p snap = .fault (.snapshotRejected .badSignature)) ∧
    (0x10180 ≤ snap.length → (∀ i : Fin 37, byte i = p.signature[i]) →
      ∃ t, loadSnapshot p snap = .next t ∧ t.Inv ∧ t.params = p ∧
        t.pc = Word.mk (byte 38) (byte 37) ∧ t.a = byte 39 ∧ t.x = byte 40 ∧ t.y = byte 41 ∧ t.sp = byte 43 ∧
        t.flags = (t.unpackPsw (byte 42)).flags ∧
        (∀ a : Word, t.peek a = byte (0x100 + a.toNat)) ∧
        (∀ k : Fin 128, t.dspRegs[k] = byte (0x10100 + k)) ∧
        (∀ i : Fin 3, t.timers[i] =
          { enabled := (t.peek 0x00F1).getLsbD i, divisor := t.peek (0x00FA + BitVec.ofNat 16 i)
            counter := (t.peek (0x00FD + BitVec.ofNat 16 i)).toNat % 16, last := 0 }) ∧
        (∀ v : Fin 8, t.voices[v] = Voice.reset) ∧
        t.everyOther = true ∧ t.rateCounter = 0 ∧ t.konLatch = 0 ∧ t.kofLatch = 0 ∧
        t.time = 0 ∧ t.target = 0 ∧ t.fault = none ∧ t.halted = false)

/-- R770, R771: a call of `produce_frame` on a legal idle machine ends: in a frame, the CPU's time at most 11 cycles behind a
target one sample further on, or in one of the two faults of a running machine. That a call is cut into steps, of which 32 are
enough, is the model's choice (log 4, DESIGN CHOICE). -/
def Obligations.ProduceFrameEnds : Prop :=
  ∀ s : State, s.Inv → s.phase = .idle → s.fault = none →
    match produceFrame s with
    | .next t => t.phase = .idle ∧ t.frame ≠ none ∧ t.target = s.target + 32 ∧ t.time ≤ t.target ∧ t.target ≤ t.time + 11
    | .fault (.unknownOpcode _ _ z) => z.fault ≠ none
    | .fault (.unsupportedFeature _ _ z) => z.fault ≠ none
    | .fault (.snapshotRejected _) => False
    | .refused _ => False

end
end

