-- ==== Sys2Proof/Laws/Memory.lean ====
section
/-! SUPPORT. Laws/Memory.lean: a read after a write, and that every operation on RAM keeps the canonical form. -/

namespace Sys2Proof.Machine

/-! ### Reading -/

theorem Memory.read_erase (m : List Host.Cell) (k j : Nat) :
    Memory.read (Memory.erase m k) j = if j = k then Memory.unlisted else Memory.read m j := by
  induction m with
  | nil => simp [Memory.erase, Memory.read]
  | cons c m ih =>
    unfold Memory.erase at ih ⊢
    by_cases hc : c.1 = k
    · rw [List.filter_cons_of_neg (by simp [hc]), ih, Memory.read]
      grind
    · rw [List.filter_cons_of_pos (by simpa using hc), Memory.read, ih, Memory.read]
      grind

theorem Memory.read_insert (k : Nat) (v : Byte) (m : List Host.Cell) (j : Nat) (hk : ∀ c ∈ m, c.1 ≠ k) :
    Memory.read (Memory.insert k v m) j = if j = k then v else Memory.read m j := by
  induction m with
  | nil => simp [Memory.insert, Memory.read, eq_comm]
  | cons c m ih =>
    have hc : c.1 ≠ k := hk c (by simp)
    have ih := ih fun d hd => hk d (by simp [hd])
    simp only [Memory.insert]
    split
    · simp only [Memory.read]
      grind
    · simp only [Memory.read, ih]
      grind

theorem Memory.erase_ne (m : List Host.Cell) (k : Nat) : ∀ c ∈ Memory.erase m k, c.1 ≠ k := by
  simp [Memory.erase]

/-- A read after a write. -/
theorem Memory.read_write (m : List Host.Cell) (k : Nat) (v : Byte) (j : Nat) :
    Memory.read (Memory.write m k v) j = if j = k then v else Memory.read m j := by
  unfold Memory.write
  split
  · rename_i hv
    rw [Memory.read_erase, hv]
  · rw [Memory.read_insert _ _ _ _ (Memory.erase_ne m k), Memory.read_erase]
    split <;> rfl

/-! ### The canonical form -/

theorem Memory.wf_nil : Memory.wf [] := by simp [Memory.wf]

theorem Memory.wf_erase (m : List Host.Cell) (k : Nat) (h : Memory.wf m) : Memory.wf (Memory.erase m k) :=
  ⟨h.1.filter _, fun c hc => h.2 c (List.mem_filter.mp hc).1⟩

theorem Memory.mem_insert (k : Nat) (v : Byte) (m : List Host.Cell) (c : Host.Cell) :
    c ∈ Memory.insert k v m ↔ c = (k, v) ∨ c ∈ m := by
  induction m with
  | nil => simp [Memory.insert]
  | cons d m ih =>
    simp only [Memory.insert]
    split <;> simp [ih, or_left_comm]

theorem Memory.wf_insert (k : Nat) (v : Byte) (m : List Host.Cell) (h : Memory.wf m) (hk : k < 0x10000)
    (hv : v ≠ Memory.unlisted) (hne : ∀ c ∈ m, c.1 ≠ k) : Memory.wf (Memory.insert k v m) := by
  refine ⟨?_, fun c hc => ?_⟩
  · induction m with
    | nil => simp [Memory.insert]
    | cons d m ih =>
      have hd := List.pairwise_cons.mp h.1
      have ih := ih ⟨hd.2, fun c hc => h.2 c (by simp [hc])⟩ fun c hc => hne c (by simp [hc])
      have hdk : d.1 ≠ k := hne d (by simp)
      simp only [Memory.insert]
      split
      · refine List.pairwise_cons.mpr ⟨fun c hc => ?_, h.1⟩
        rcases List.mem_cons.mp hc with rfl | hc
        · assumption
        · have := hd.1 c hc
          simp only; omega
      · refine List.pairwise_cons.mpr ⟨fun c hc => ?_, ih⟩
        rcases (Memory.mem_insert k v m c).mp hc with rfl | hc
        · simp only; omega
        · exact hd.1 c hc
  · rcases (Memory.mem_insert k v m c).mp hc with rfl | hc
    · exact ⟨hv, hk⟩
    · exact h.2 c hc

/-- A write inside the address space keeps the canonical form. -/
theorem Memory.wf_write (m : List Host.Cell) (k : Nat) (v : Byte) (h : Memory.wf m) (hk : k < 0x10000) :
    Memory.wf (Memory.write m k v) := by
  unfold Memory.write
  split
  · exact Memory.wf_erase m k h
  · exact Memory.wf_insert k v _ (Memory.wf_erase m k h) hk (by assumption) (Memory.erase_ne m k)

theorem Memory.mem_ofBytes (k : Nat) (bs : List Byte) (c : Host.Cell) (hc : c ∈ Memory.ofBytes k bs) :
    c.2 ≠ Memory.unlisted ∧ k ≤ c.1 ∧ c.1 < k + bs.length := by
  induction bs generalizing k with
  | nil => simp [Memory.ofBytes] at hc
  | cons b bs ih =>
    simp only [Memory.ofBytes] at hc
    split at hc
    · have ⟨h1, h2, h3⟩ := ih (k + 1) hc
      exact ⟨h1, by omega, by rw [List.length_cons]; omega⟩
    · rcases List.mem_cons.mp hc with rfl | hc
      · simp only [List.length_cons]
        exact ⟨by assumption, by omega, by omega⟩
      · have ⟨h1, h2, h3⟩ := ih (k + 1) hc
        exact ⟨h1, by omega, by rw [List.length_cons]; omega⟩

/-- A memory built from bytes is in the canonical form. -/
theorem Memory.wf_ofBytes (k : Nat) (bs : List Byte) (h : k + bs.length ≤ 0x10000) : Memory.wf (Memory.ofBytes k bs) := by
  refine ⟨?_, fun c hc => ?_⟩
  · clear h
    induction bs generalizing k with
    | nil => simp [Memory.ofBytes]
    | cons b bs ih =>
      simp only [Memory.ofBytes]
      split
      · exact ih (k + 1)
      · refine List.pairwise_cons.mpr ⟨fun c hc => ?_, ih (k + 1)⟩
        have := Memory.mem_ofBytes (k + 1) bs c hc
        simp only; omega
  · have := Memory.mem_ofBytes k bs c hc
    exact ⟨this.1, by omega⟩

/-- A memory of zero bytes lists nothing. -/
theorem Memory.ofBytes_replicate_zero (k n : Nat) : Memory.ofBytes k (List.replicate n 0) = [] := by
  induction n generalizing k with
  | zero => rfl
  | succ n ih =>
    simp only [List.replicate_succ, Memory.ofBytes, Memory.unlisted, if_true]
    exact ih (k + 1)

/-! ### At the machine -/

/-- `ram[b]` after `ram[m] <- v`. -/
@[simp] theorem State.peek_poke (s : State) (m : Word) (v : Byte) (b : Word) :
    (s.poke m v).peek b = if b = m then v else s.peek b := by
  simp only [State.peek, State.poke, Memory.read_write, BitVec.toNat_inj]

theorem State.wf_poke (s : State) (m : Word) (v : Byte) (h : Memory.wf s.ram) : Memory.wf (s.poke m v).ram :=
  Memory.wf_write _ _ _ h m.isLt

end Sys2Proof.Machine
end

