-- ==== Sys2Proof/Laws/State.lean ====
section
/-! SUPPORT. Laws/State.lean: one lemma per field per named update of State, each true by rfl. -/

namespace Sys2Proof.Machine

/-! ### State.poke -/

@[simp] theorem State.poke_a (s : State) (m : Word) (v : Byte) : (s.poke m v).a = s.a := rfl
@[simp] theorem State.poke_x (s : State) (m : Word) (v : Byte) : (s.poke m v).x = s.x := rfl
@[simp] theorem State.poke_y (s : State) (m : Word) (v : Byte) : (s.poke m v).y = s.y := rfl
@[simp] theorem State.poke_sp (s : State) (m : Word) (v : Byte) : (s.poke m v).sp = s.sp := rfl
@[simp] theorem State.poke_pc (s : State) (m : Word) (v : Byte) : (s.poke m v).pc = s.pc := rfl
@[simp] theorem State.poke_flags (s : State) (m : Word) (v : Byte) : (s.poke m v).flags = s.flags := rfl
@[simp] theorem State.poke_dspRegs (s : State) (m : Word) (v : Byte) : (s.poke m v).dspRegs = s.dspRegs := rfl
@[simp] theorem State.poke_timers (s : State) (m : Word) (v : Byte) : (s.poke m v).timers = s.timers := rfl
@[simp] theorem State.poke_time (s : State) (m : Word) (v : Byte) : (s.poke m v).time = s.time := rfl
@[simp] theorem State.poke_target (s : State) (m : Word) (v : Byte) : (s.poke m v).target = s.target := rfl
@[simp] theorem State.poke_halted (s : State) (m : Word) (v : Byte) : (s.poke m v).halted = s.halted := rfl
@[simp] theorem State.poke_fault (s : State) (m : Word) (v : Byte) : (s.poke m v).fault = s.fault := rfl
@[simp] theorem State.poke_everyOther (s : State) (m : Word) (v : Byte) : (s.poke m v).everyOther = s.everyOther := rfl
@[simp] theorem State.poke_rateCounter (s : State) (m : Word) (v : Byte) : (s.poke m v).rateCounter = s.rateCounter := rfl
@[simp] theorem State.poke_konLatch (s : State) (m : Word) (v : Byte) : (s.poke m v).konLatch = s.konLatch := rfl
@[simp] theorem State.poke_kofLatch (s : State) (m : Word) (v : Byte) : (s.poke m v).kofLatch = s.kofLatch := rfl
@[simp] theorem State.poke_voices (s : State) (m : Word) (v : Byte) : (s.poke m v).voices = s.voices := rfl
@[simp] theorem State.poke_phase (s : State) (m : Word) (v : Byte) : (s.poke m v).phase = s.phase := rfl
@[simp] theorem State.poke_frame (s : State) (m : Word) (v : Byte) : (s.poke m v).frame = s.frame := rfl
@[simp] theorem State.poke_params (s : State) (m : Word) (v : Byte) : (s.poke m v).params = s.params := rfl

/-! ### State.onTimer -/

@[simp] theorem State.onTimer_a (s : State) (i : Fin 3) (f : Nat → Nat → Timer → Timer) : (s.onTimer i f).a = s.a := rfl
@[simp] theorem State.onTimer_x (s : State) (i : Fin 3) (f : Nat → Nat → Timer → Timer) : (s.onTimer i f).x = s.x := rfl
@[simp] theorem State.onTimer_y (s : State) (i : Fin 3) (f : Nat → Nat → Timer → Timer) : (s.onTimer i f).y = s.y := rfl
@[simp] theorem State.onTimer_sp (s : State) (i : Fin 3) (f : Nat → Nat → Timer → Timer) : (s.onTimer i f).sp = s.sp := rfl
@[simp] theorem State.onTimer_pc (s : State) (i : Fin 3) (f : Nat → Nat → Timer → Timer) : (s.onTimer i f).pc = s.pc := rfl
@[simp] theorem State.onTimer_flags (s : State) (i : Fin 3) (f : Nat → Nat → Timer → Timer) : (s.onTimer i f).flags = s.flags := rfl
@[simp] theorem State.onTimer_ram (s : State) (i : Fin 3) (f : Nat → Nat → Timer → Timer) : (s.onTimer i f).ram = s.ram := rfl
@[simp] theorem State.onTimer_dspRegs (s : State) (i : Fin 3) (f : Nat → Nat → Timer → Timer) : (s.onTimer i f).dspRegs = s.dspRegs := rfl
@[simp] theorem State.onTimer_time (s : State) (i : Fin 3) (f : Nat → Nat → Timer → Timer) : (s.onTimer i f).time = s.time := rfl
@[simp] theorem State.onTimer_target (s : State) (i : Fin 3) (f : Nat → Nat → Timer → Timer) : (s.onTimer i f).target = s.target := rfl
@[simp] theorem State.onTimer_halted (s : State) (i : Fin 3) (f : Nat → Nat → Timer → Timer) : (s.onTimer i f).halted = s.halted := rfl
@[simp] theorem State.onTimer_fault (s : State) (i : Fin 3) (f : Nat → Nat → Timer → Timer) : (s.onTimer i f).fault = s.fault := rfl
@[simp] theorem State.onTimer_everyOther (s : State) (i : Fin 3) (f : Nat → Nat → Timer → Timer) : (s.onTimer i f).everyOther = s.everyOther := rfl
@[simp] theorem State.onTimer_rateCounter (s : State) (i : Fin 3) (f : Nat → Nat → Timer → Timer) : (s.onTimer i f).rateCounter = s.rateCounter := rfl
@[simp] theorem State.onTimer_konLatch (s : State) (i : Fin 3) (f : Nat → Nat → Timer → Timer) : (s.onTimer i f).konLatch = s.konLatch := rfl
@[simp] theorem State.onTimer_kofLatch (s : State) (i : Fin 3) (f : Nat → Nat → Timer → Timer) : (s.onTimer i f).kofLatch = s.kofLatch := rfl
@[simp] theorem State.onTimer_voices (s : State) (i : Fin 3) (f : Nat → Nat → Timer → Timer) : (s.onTimer i f).voices = s.voices := rfl
@[simp] theorem State.onTimer_phase (s : State) (i : Fin 3) (f : Nat → Nat → Timer → Timer) : (s.onTimer i f).phase = s.phase := rfl
@[simp] theorem State.onTimer_frame (s : State) (i : Fin 3) (f : Nat → Nat → Timer → Timer) : (s.onTimer i f).frame = s.frame := rfl
@[simp] theorem State.onTimer_params (s : State) (i : Fin 3) (f : Nat → Nat → Timer → Timer) : (s.onTimer i f).params = s.params := rfl

/-! ### State.setDspReg -/

@[simp] theorem State.setDspReg_a (s : State) (i v : Byte) : (s.setDspReg i v).a = s.a := rfl
@[simp] theorem State.setDspReg_x (s : State) (i v : Byte) : (s.setDspReg i v).x = s.x := rfl
@[simp] theorem State.setDspReg_y (s : State) (i v : Byte) : (s.setDspReg i v).y = s.y := rfl
@[simp] theorem State.setDspReg_sp (s : State) (i v : Byte) : (s.setDspReg i v).sp = s.sp := rfl
@[simp] theorem State.setDspReg_pc (s : State) (i v : Byte) : (s.setDspReg i v).pc = s.pc := rfl
@[simp] theorem State.setDspReg_flags (s : State) (i v : Byte) : (s.setDspReg i v).flags = s.flags := rfl
@[simp] theorem State.setDspReg_ram (s : State) (i v : Byte) : (s.setDspReg i v).ram = s.ram := rfl
@[simp] theorem State.setDspReg_timers (s : State) (i v : Byte) : (s.setDspReg i v).timers = s.timers := rfl
@[simp] theorem State.setDspReg_time (s : State) (i v : Byte) : (s.setDspReg i v).time = s.time := rfl
@[simp] theorem State.setDspReg_target (s : State) (i v : Byte) : (s.setDspReg i v).target = s.target := rfl
@[simp] theorem State.setDspReg_halted (s : State) (i v : Byte) : (s.setDspReg i v).halted = s.halted := rfl
@[simp] theorem State.setDspReg_fault (s : State) (i v : Byte) : (s.setDspReg i v).fault = s.fault := rfl
@[simp] theorem State.setDspReg_everyOther (s : State) (i v : Byte) : (s.setDspReg i v).everyOther = s.everyOther := rfl
@[simp] theorem State.setDspReg_rateCounter (s : State) (i v : Byte) : (s.setDspReg i v).rateCounter = s.rateCounter := rfl
@[simp] theorem State.setDspReg_konLatch (s : State) (i v : Byte) : (s.setDspReg i v).konLatch = s.konLatch := rfl
@[simp] theorem State.setDspReg_kofLatch (s : State) (i v : Byte) : (s.setDspReg i v).kofLatch = s.kofLatch := rfl
@[simp] theorem State.setDspReg_voices (s : State) (i v : Byte) : (s.setDspReg i v).voices = s.voices := rfl
@[simp] theorem State.setDspReg_phase (s : State) (i v : Byte) : (s.setDspReg i v).phase = s.phase := rfl
@[simp] theorem State.setDspReg_frame (s : State) (i v : Byte) : (s.setDspReg i v).frame = s.frame := rfl
@[simp] theorem State.setDspReg_params (s : State) (i v : Byte) : (s.setDspReg i v).params = s.params := rfl

/-! ### State.setYa -/

@[simp] theorem State.setYa_x (s : State) (w : Word) : (s.setYa w).x = s.x := rfl
@[simp] theorem State.setYa_sp (s : State) (w : Word) : (s.setYa w).sp = s.sp := rfl
@[simp] theorem State.setYa_pc (s : State) (w : Word) : (s.setYa w).pc = s.pc := rfl
@[simp] theorem State.setYa_flags (s : State) (w : Word) : (s.setYa w).flags = s.flags := rfl
@[simp] theorem State.setYa_ram (s : State) (w : Word) : (s.setYa w).ram = s.ram := rfl
@[simp] theorem State.setYa_dspRegs (s : State) (w : Word) : (s.setYa w).dspRegs = s.dspRegs := rfl
@[simp] theorem State.setYa_timers (s : State) (w : Word) : (s.setYa w).timers = s.timers := rfl
@[simp] theorem State.setYa_time (s : State) (w : Word) : (s.setYa w).time = s.time := rfl
@[simp] theorem State.setYa_target (s : State) (w : Word) : (s.setYa w).target = s.target := rfl
@[simp] theorem State.setYa_halted (s : State) (w : Word) : (s.setYa w).halted = s.halted := rfl
@[simp] theorem State.setYa_fault (s : State) (w : Word) : (s.setYa w).fault = s.fault := rfl
@[simp] theorem State.setYa_everyOther (s : State) (w : Word) : (s.setYa w).everyOther = s.everyOther := rfl
@[simp] theorem State.setYa_rateCounter (s : State) (w : Word) : (s.setYa w).rateCounter = s.rateCounter := rfl
@[simp] theorem State.setYa_konLatch (s : State) (w : Word) : (s.setYa w).konLatch = s.konLatch := rfl
@[simp] theorem State.setYa_kofLatch (s : State) (w : Word) : (s.setYa w).kofLatch = s.kofLatch := rfl
@[simp] theorem State.setYa_voices (s : State) (w : Word) : (s.setYa w).voices = s.voices := rfl
@[simp] theorem State.setYa_phase (s : State) (w : Word) : (s.setYa w).phase = s.phase := rfl
@[simp] theorem State.setYa_frame (s : State) (w : Word) : (s.setYa w).frame = s.frame := rfl
@[simp] theorem State.setYa_params (s : State) (w : Word) : (s.setYa w).params = s.params := rfl

/-! ### State.unpackPsw -/

@[simp] theorem State.unpackPsw_a (s : State) (v : Byte) : (s.unpackPsw v).a = s.a := rfl
@[simp] theorem State.unpackPsw_x (s : State) (v : Byte) : (s.unpackPsw v).x = s.x := rfl
@[simp] theorem State.unpackPsw_y (s : State) (v : Byte) : (s.unpackPsw v).y = s.y := rfl
@[simp] theorem State.unpackPsw_sp (s : State) (v : Byte) : (s.unpackPsw v).sp = s.sp := rfl
@[simp] theorem State.unpackPsw_pc (s : State) (v : Byte) : (s.unpackPsw v).pc = s.pc := rfl
@[simp] theorem State.unpackPsw_ram (s : State) (v : Byte) : (s.unpackPsw v).ram = s.ram := rfl
@[simp] theorem State.unpackPsw_dspRegs (s : State) (v : Byte) : (s.unpackPsw v).dspRegs = s.dspRegs := rfl
@[simp] theorem State.unpackPsw_timers (s : State) (v : Byte) : (s.unpackPsw v).timers = s.timers := rfl
@[simp] theorem State.unpackPsw_time (s : State) (v : Byte) : (s.unpackPsw v).time = s.time := rfl
@[simp] theorem State.unpackPsw_target (s : State) (v : Byte) : (s.unpackPsw v).target = s.target := rfl
@[simp] theorem State.unpackPsw_halted (s : State) (v : Byte) : (s.unpackPsw v).halted = s.halted := rfl
@[simp] theorem State.unpackPsw_fault (s : State) (v : Byte) : (s.unpackPsw v).fault = s.fault := rfl
@[simp] theorem State.unpackPsw_everyOther (s : State) (v : Byte) : (s.unpackPsw v).everyOther = s.everyOther := rfl
@[simp] theorem State.unpackPsw_rateCounter (s : State) (v : Byte) : (s.unpackPsw v).rateCounter = s.rateCounter := rfl
@[simp] theorem State.unpackPsw_konLatch (s : State) (v : Byte) : (s.unpackPsw v).konLatch = s.konLatch := rfl
@[simp] theorem State.unpackPsw_kofLatch (s : State) (v : Byte) : (s.unpackPsw v).kofLatch = s.kofLatch := rfl
@[simp] theorem State.unpackPsw_voices (s : State) (v : Byte) : (s.unpackPsw v).voices = s.voices := rfl
@[simp] theorem State.unpackPsw_phase (s : State) (v : Byte) : (s.unpackPsw v).phase = s.phase := rfl
@[simp] theorem State.unpackPsw_frame (s : State) (v : Byte) : (s.unpackPsw v).frame = s.frame := rfl
@[simp] theorem State.unpackPsw_params (s : State) (v : Byte) : (s.unpackPsw v).params = s.params := rfl

/-! ### State.setVoice -/

@[simp] theorem State.setVoice_a (s : State) (v : Fin 8) (vo : Voice) : (s.setVoice v vo).a = s.a := rfl
@[simp] theorem State.setVoice_x (s : State) (v : Fin 8) (vo : Voice) : (s.setVoice v vo).x = s.x := rfl
@[simp] theorem State.setVoice_y (s : State) (v : Fin 8) (vo : Voice) : (s.setVoice v vo).y = s.y := rfl
@[simp] theorem State.setVoice_sp (s : State) (v : Fin 8) (vo : Voice) : (s.setVoice v vo).sp = s.sp := rfl
@[simp] theorem State.setVoice_pc (s : State) (v : Fin 8) (vo : Voice) : (s.setVoice v vo).pc = s.pc := rfl
@[simp] theorem State.setVoice_flags (s : State) (v : Fin 8) (vo : Voice) : (s.setVoice v vo).flags = s.flags := rfl
@[simp] theorem State.setVoice_ram (s : State) (v : Fin 8) (vo : Voice) : (s.setVoice v vo).ram = s.ram := rfl
@[simp] theorem State.setVoice_dspRegs (s : State) (v : Fin 8) (vo : Voice) : (s.setVoice v vo).dspRegs = s.dspRegs := rfl
@[simp] theorem State.setVoice_timers (s : State) (v : Fin 8) (vo : Voice) : (s.setVoice v vo).timers = s.timers := rfl
@[simp] theorem State.setVoice_time (s : State) (v : Fin 8) (vo : Voice) : (s.setVoice v vo).time = s.time := rfl
@[simp] theorem State.setVoice_target (s : State) (v : Fin 8) (vo : Voice) : (s.setVoice v vo).target = s.target := rfl
@[simp] theorem State.setVoice_halted (s : State) (v : Fin 8) (vo : Voice) : (s.setVoice v vo).halted = s.halted := rfl
@[simp] theorem State.setVoice_fault (s : State) (v : Fin 8) (vo : Voice) : (s.setVoice v vo).fault = s.fault := rfl
@[simp] theorem State.setVoice_everyOther (s : State) (v : Fin 8) (vo : Voice) : (s.setVoice v vo).everyOther = s.everyOther := rfl
@[simp] theorem State.setVoice_rateCounter (s : State) (v : Fin 8) (vo : Voice) : (s.setVoice v vo).rateCounter = s.rateCounter := rfl
@[simp] theorem State.setVoice_konLatch (s : State) (v : Fin 8) (vo : Voice) : (s.setVoice v vo).konLatch = s.konLatch := rfl
@[simp] theorem State.setVoice_kofLatch (s : State) (v : Fin 8) (vo : Voice) : (s.setVoice v vo).kofLatch = s.kofLatch := rfl
@[simp] theorem State.setVoice_phase (s : State) (v : Fin 8) (vo : Voice) : (s.setVoice v vo).phase = s.phase := rfl
@[simp] theorem State.setVoice_frame (s : State) (v : Fin 8) (vo : Voice) : (s.setVoice v vo).frame = s.frame := rfl
@[simp] theorem State.setVoice_params (s : State) (v : Fin 8) (vo : Voice) : (s.setVoice v vo).params = s.params := rfl

/-! ### setNZ8 -/

@[simp] theorem setNZ8_a (v : Byte) (s : State) : (setNZ8 v s).a = s.a := rfl
@[simp] theorem setNZ8_x (v : Byte) (s : State) : (setNZ8 v s).x = s.x := rfl
@[simp] theorem setNZ8_y (v : Byte) (s : State) : (setNZ8 v s).y = s.y := rfl
@[simp] theorem setNZ8_sp (v : Byte) (s : State) : (setNZ8 v s).sp = s.sp := rfl
@[simp] theorem setNZ8_pc (v : Byte) (s : State) : (setNZ8 v s).pc = s.pc := rfl
@[simp] theorem setNZ8_ram (v : Byte) (s : State) : (setNZ8 v s).ram = s.ram := rfl
@[simp] theorem setNZ8_dspRegs (v : Byte) (s : State) : (setNZ8 v s).dspRegs = s.dspRegs := rfl
@[simp] theorem setNZ8_timers (v : Byte) (s : State) : (setNZ8 v s).timers = s.timers := rfl
@[simp] theorem setNZ8_time (v : Byte) (s : State) : (setNZ8 v s).time = s.time := rfl
@[simp] theorem setNZ8_target (v : Byte) (s : State) : (setNZ8 v s).target = s.target := rfl
@[simp] theorem setNZ8_halted (v : Byte) (s : State) : (setNZ8 v s).halted = s.halted := rfl
@[simp] theorem setNZ8_fault (v : Byte) (s : State) : (setNZ8 v s).fault = s.fault := rfl
@[simp] theorem setNZ8_everyOther (v : Byte) (s : State) : (setNZ8 v s).everyOther = s.everyOther := rfl
@[simp] theorem setNZ8_rateCounter (v : Byte) (s : State) : (setNZ8 v s).rateCounter = s.rateCounter := rfl
@[simp] theorem setNZ8_konLatch (v : Byte) (s : State) : (setNZ8 v s).konLatch = s.konLatch := rfl
@[simp] theorem setNZ8_kofLatch (v : Byte) (s : State) : (setNZ8 v s).kofLatch = s.kofLatch := rfl
@[simp] theorem setNZ8_voices (v : Byte) (s : State) : (setNZ8 v s).voices = s.voices := rfl
@[simp] theorem setNZ8_phase (v : Byte) (s : State) : (setNZ8 v s).phase = s.phase := rfl
@[simp] theorem setNZ8_frame (v : Byte) (s : State) : (setNZ8 v s).frame = s.frame := rfl
@[simp] theorem setNZ8_params (v : Byte) (s : State) : (setNZ8 v s).params = s.params := rfl

/-! ### setNZ16 -/

@[simp] theorem setNZ16_a (w : Word) (s : State) : (setNZ16 w s).a = s.a := rfl
@[simp] theorem setNZ16_x (w : Word) (s : State) : (setNZ16 w s).x = s.x := rfl
@[simp] theorem setNZ16_y (w : Word) (s : State) : (setNZ16 w s).y = s.y := rfl
@[simp] theorem setNZ16_sp (w : Word) (s : State) : (setNZ16 w s).sp = s.sp := rfl
@[simp] theorem setNZ16_pc (w : Word) (s : State) : (setNZ16 w s).pc = s.pc := rfl
@[simp] theorem setNZ16_ram (w : Word) (s : State) : (setNZ16 w s).ram = s.ram := rfl
@[simp] theorem setNZ16_dspRegs (w : Word) (s : State) : (setNZ16 w s).dspRegs = s.dspRegs := rfl
@[simp] theorem setNZ16_timers (w : Word) (s : State) : (setNZ16 w s).timers = s.timers := rfl
@[simp] theorem setNZ16_time (w : Word) (s : State) : (setNZ16 w s).time = s.time := rfl
@[simp] theorem setNZ16_target (w : Word) (s : State) : (setNZ16 w s).target = s.target := rfl
@[simp] theorem setNZ16_halted (w : Word) (s : State) : (setNZ16 w s).halted = s.halted := rfl
@[simp] theorem setNZ16_fault (w : Word) (s : State) : (setNZ16 w s).fault = s.fault := rfl
@[simp] theorem setNZ16_everyOther (w : Word) (s : State) : (setNZ16 w s).everyOther = s.everyOther := rfl
@[simp] theorem setNZ16_rateCounter (w : Word) (s : State) : (setNZ16 w s).rateCounter = s.rateCounter := rfl
@[simp] theorem setNZ16_konLatch (w : Word) (s : State) : (setNZ16 w s).konLatch = s.konLatch := rfl
@[simp] theorem setNZ16_kofLatch (w : Word) (s : State) : (setNZ16 w s).kofLatch = s.kofLatch := rfl
@[simp] theorem setNZ16_voices (w : Word) (s : State) : (setNZ16 w s).voices = s.voices := rfl
@[simp] theorem setNZ16_phase (w : Word) (s : State) : (setNZ16 w s).phase = s.phase := rfl
@[simp] theorem setNZ16_frame (w : Word) (s : State) : (setNZ16 w s).frame = s.frame := rfl
@[simp] theorem setNZ16_params (w : Word) (s : State) : (setNZ16 w s).params = s.params := rfl

/-! ### setC -/

@[simp] theorem setC_a (c : Bool) (s : State) : (setC c s).a = s.a := rfl
@[simp] theorem setC_x (c : Bool) (s : State) : (setC c s).x = s.x := rfl
@[simp] theorem setC_y (c : Bool) (s : State) : (setC c s).y = s.y := rfl
@[simp] theorem setC_sp (c : Bool) (s : State) : (setC c s).sp = s.sp := rfl
@[simp] theorem setC_pc (c : Bool) (s : State) : (setC c s).pc = s.pc := rfl
@[simp] theorem setC_ram (c : Bool) (s : State) : (setC c s).ram = s.ram := rfl
@[simp] theorem setC_dspRegs (c : Bool) (s : State) : (setC c s).dspRegs = s.dspRegs := rfl
@[simp] theorem setC_timers (c : Bool) (s : State) : (setC c s).timers = s.timers := rfl
@[simp] theorem setC_time (c : Bool) (s : State) : (setC c s).time = s.time := rfl
@[simp] theorem setC_target (c : Bool) (s : State) : (setC c s).target = s.target := rfl
@[simp] theorem setC_halted (c : Bool) (s : State) : (setC c s).halted = s.halted := rfl
@[simp] theorem setC_fault (c : Bool) (s : State) : (setC c s).fault = s.fault := rfl
@[simp] theorem setC_everyOther (c : Bool) (s : State) : (setC c s).everyOther = s.everyOther := rfl
@[simp] theorem setC_rateCounter (c : Bool) (s : State) : (setC c s).rateCounter = s.rateCounter := rfl
@[simp] theorem setC_konLatch (c : Bool) (s : State) : (setC c s).konLatch = s.konLatch := rfl
@[simp] theorem setC_kofLatch (c : Bool) (s : State) : (setC c s).kofLatch = s.kofLatch := rfl
@[simp] theorem setC_voices (c : Bool) (s : State) : (setC c s).voices = s.voices := rfl
@[simp] theorem setC_phase (c : Bool) (s : State) : (setC c s).phase = s.phase := rfl
@[simp] theorem setC_frame (c : Bool) (s : State) : (setC c s).frame = s.frame := rfl
@[simp] theorem setC_params (c : Bool) (s : State) : (setC c s).params = s.params := rfl

/-! ### setV -/

@[simp] theorem setV_a (c : Bool) (s : State) : (setV c s).a = s.a := rfl
@[simp] theorem setV_x (c : Bool) (s : State) : (setV c s).x = s.x := rfl
@[simp] theorem setV_y (c : Bool) (s : State) : (setV c s).y = s.y := rfl
@[simp] theorem setV_sp (c : Bool) (s : State) : (setV c s).sp = s.sp := rfl
@[simp] theorem setV_pc (c : Bool) (s : State) : (setV c s).pc = s.pc := rfl
@[simp] theorem setV_ram (c : Bool) (s : State) : (setV c s).ram = s.ram := rfl
@[simp] theorem setV_dspRegs (c : Bool) (s : State) : (setV c s).dspRegs = s.dspRegs := rfl
@[simp] theorem setV_timers (c : Bool) (s : State) : (setV c s).timers = s.timers := rfl
@[simp] theorem setV_time (c : Bool) (s : State) : (setV c s).time = s.time := rfl
@[simp] theorem setV_target (c : Bool) (s : State) : (setV c s).target = s.target := rfl
@[simp] theorem setV_halted (c : Bool) (s : State) : (setV c s).halted = s.halted := rfl
@[simp] theorem setV_fault (c : Bool) (s : State) : (setV c s).fault = s.fault := rfl
@[simp] theorem setV_everyOther (c : Bool) (s : State) : (setV c s).everyOther = s.everyOther := rfl
@[simp] theorem setV_rateCounter (c : Bool) (s : State) : (setV c s).rateCounter = s.rateCounter := rfl
@[simp] theorem setV_konLatch (c : Bool) (s : State) : (setV c s).konLatch = s.konLatch := rfl
@[simp] theorem setV_kofLatch (c : Bool) (s : State) : (setV c s).kofLatch = s.kofLatch := rfl
@[simp] theorem setV_voices (c : Bool) (s : State) : (setV c s).voices = s.voices := rfl
@[simp] theorem setV_phase (c : Bool) (s : State) : (setV c s).phase = s.phase := rfl
@[simp] theorem setV_frame (c : Bool) (s : State) : (setV c s).frame = s.frame := rfl
@[simp] theorem setV_params (c : Bool) (s : State) : (setV c s).params = s.params := rfl

/-! ### setP -/

@[simp] theorem setP_a (c : Bool) (s : State) : (setP c s).a = s.a := rfl
@[simp] theorem setP_x (c : Bool) (s : State) : (setP c s).x = s.x := rfl
@[simp] theorem setP_y (c : Bool) (s : State) : (setP c s).y = s.y := rfl
@[simp] theorem setP_sp (c : Bool) (s : State) : (setP c s).sp = s.sp := rfl
@[simp] theorem setP_pc (c : Bool) (s : State) : (setP c s).pc = s.pc := rfl
@[simp] theorem setP_ram (c : Bool) (s : State) : (setP c s).ram = s.ram := rfl
@[simp] theorem setP_dspRegs (c : Bool) (s : State) : (setP c s).dspRegs = s.dspRegs := rfl
@[simp] theorem setP_timers (c : Bool) (s : State) : (setP c s).timers = s.timers := rfl
@[simp] theorem setP_time (c : Bool) (s : State) : (setP c s).time = s.time := rfl
@[simp] theorem setP_target (c : Bool) (s : State) : (setP c s).target = s.target := rfl
@[simp] theorem setP_halted (c : Bool) (s : State) : (setP c s).halted = s.halted := rfl
@[simp] theorem setP_fault (c : Bool) (s : State) : (setP c s).fault = s.fault := rfl
@[simp] theorem setP_everyOther (c : Bool) (s : State) : (setP c s).everyOther = s.everyOther := rfl
@[simp] theorem setP_rateCounter (c : Bool) (s : State) : (setP c s).rateCounter = s.rateCounter := rfl
@[simp] theorem setP_konLatch (c : Bool) (s : State) : (setP c s).konLatch = s.konLatch := rfl
@[simp] theorem setP_kofLatch (c : Bool) (s : State) : (setP c s).kofLatch = s.kofLatch := rfl
@[simp] theorem setP_voices (c : Bool) (s : State) : (setP c s).voices = s.voices := rfl
@[simp] theorem setP_phase (c : Bool) (s : State) : (setP c s).phase = s.phase := rfl
@[simp] theorem setP_frame (c : Bool) (s : State) : (setP c s).frame = s.frame := rfl
@[simp] theorem setP_params (c : Bool) (s : State) : (setP c s).params = s.params := rfl

/-! ### setH -/

@[simp] theorem setH_a (c : Bool) (s : State) : (setH c s).a = s.a := rfl
@[simp] theorem setH_x (c : Bool) (s : State) : (setH c s).x = s.x := rfl
@[simp] theorem setH_y (c : Bool) (s : State) : (setH c s).y = s.y := rfl
@[simp] theorem setH_sp (c : Bool) (s : State) : (setH c s).sp = s.sp := rfl
@[simp] theorem setH_pc (c : Bool) (s : State) : (setH c s).pc = s.pc := rfl
@[simp] theorem setH_ram (c : Bool) (s : State) : (setH c s).ram = s.ram := rfl
@[simp] theorem setH_dspRegs (c : Bool) (s : State) : (setH c s).dspRegs = s.dspRegs := rfl
@[simp] theorem setH_timers (c : Bool) (s : State) : (setH c s).timers = s.timers := rfl
@[simp] theorem setH_time (c : Bool) (s : State) : (setH c s).time = s.time := rfl
@[simp] theorem setH_target (c : Bool) (s : State) : (setH c s).target = s.target := rfl
@[simp] theorem setH_halted (c : Bool) (s : State) : (setH c s).halted = s.halted := rfl
@[simp] theorem setH_fault (c : Bool) (s : State) : (setH c s).fault = s.fault := rfl
@[simp] theorem setH_everyOther (c : Bool) (s : State) : (setH c s).everyOther = s.everyOther := rfl
@[simp] theorem setH_rateCounter (c : Bool) (s : State) : (setH c s).rateCounter = s.rateCounter := rfl
@[simp] theorem setH_konLatch (c : Bool) (s : State) : (setH c s).konLatch = s.konLatch := rfl
@[simp] theorem setH_kofLatch (c : Bool) (s : State) : (setH c s).kofLatch = s.kofLatch := rfl
@[simp] theorem setH_voices (c : Bool) (s : State) : (setH c s).voices = s.voices := rfl
@[simp] theorem setH_phase (c : Bool) (s : State) : (setH c s).phase = s.phase := rfl
@[simp] theorem setH_frame (c : Bool) (s : State) : (setH c s).frame = s.frame := rfl
@[simp] theorem setH_params (c : Bool) (s : State) : (setH c s).params = s.params := rfl

/-! ### setI -/

@[simp] theorem setI_a (c : Bool) (s : State) : (setI c s).a = s.a := rfl
@[simp] theorem setI_x (c : Bool) (s : State) : (setI c s).x = s.x := rfl
@[simp] theorem setI_y (c : Bool) (s : State) : (setI c s).y = s.y := rfl
@[simp] theorem setI_sp (c : Bool) (s : State) : (setI c s).sp = s.sp := rfl
@[simp] theorem setI_pc (c : Bool) (s : State) : (setI c s).pc = s.pc := rfl
@[simp] theorem setI_ram (c : Bool) (s : State) : (setI c s).ram = s.ram := rfl
@[simp] theorem setI_dspRegs (c : Bool) (s : State) : (setI c s).dspRegs = s.dspRegs := rfl
@[simp] theorem setI_timers (c : Bool) (s : State) : (setI c s).timers = s.timers := rfl
@[simp] theorem setI_time (c : Bool) (s : State) : (setI c s).time = s.time := rfl
@[simp] theorem setI_target (c : Bool) (s : State) : (setI c s).target = s.target := rfl
@[simp] theorem setI_halted (c : Bool) (s : State) : (setI c s).halted = s.halted := rfl
@[simp] theorem setI_fault (c : Bool) (s : State) : (setI c s).fault = s.fault := rfl
@[simp] theorem setI_everyOther (c : Bool) (s : State) : (setI c s).everyOther = s.everyOther := rfl
@[simp] theorem setI_rateCounter (c : Bool) (s : State) : (setI c s).rateCounter = s.rateCounter := rfl
@[simp] theorem setI_konLatch (c : Bool) (s : State) : (setI c s).konLatch = s.konLatch := rfl
@[simp] theorem setI_kofLatch (c : Bool) (s : State) : (setI c s).kofLatch = s.kofLatch := rfl
@[simp] theorem setI_voices (c : Bool) (s : State) : (setI c s).voices = s.voices := rfl
@[simp] theorem setI_phase (c : Bool) (s : State) : (setI c s).phase = s.phase := rfl
@[simp] theorem setI_frame (c : Bool) (s : State) : (setI c s).frame = s.frame := rfl
@[simp] theorem setI_params (c : Bool) (s : State) : (setI c s).params = s.params := rfl

/-! ### openCall -/

@[simp] theorem openCall_a (s : State) : (openCall s).a = s.a := rfl
@[simp] theorem openCall_x (s : State) : (openCall s).x = s.x := rfl
@[simp] theorem openCall_y (s : State) : (openCall s).y = s.y := rfl
@[simp] theorem openCall_sp (s : State) : (openCall s).sp = s.sp := rfl
@[simp] theorem openCall_pc (s : State) : (openCall s).pc = s.pc := rfl
@[simp] theorem openCall_flags (s : State) : (openCall s).flags = s.flags := rfl
@[simp] theorem openCall_ram (s : State) : (openCall s).ram = s.ram := rfl
@[simp] theorem openCall_dspRegs (s : State) : (openCall s).dspRegs = s.dspRegs := rfl
@[simp] theorem openCall_timers (s : State) : (openCall s).timers = s.timers := rfl
@[simp] theorem openCall_time (s : State) : (openCall s).time = s.time := rfl
@[simp] theorem openCall_halted (s : State) : (openCall s).halted = s.halted := rfl
@[simp] theorem openCall_fault (s : State) : (openCall s).fault = s.fault := rfl
@[simp] theorem openCall_everyOther (s : State) : (openCall s).everyOther = s.everyOther := rfl
@[simp] theorem openCall_rateCounter (s : State) : (openCall s).rateCounter = s.rateCounter := rfl
@[simp] theorem openCall_konLatch (s : State) : (openCall s).konLatch = s.konLatch := rfl
@[simp] theorem openCall_kofLatch (s : State) : (openCall s).kofLatch = s.kofLatch := rfl
@[simp] theorem openCall_voices (s : State) : (openCall s).voices = s.voices := rfl
@[simp] theorem openCall_frame (s : State) : (openCall s).frame = s.frame := rfl
@[simp] theorem openCall_params (s : State) : (openCall s).params = s.params := rfl

/-! ### endRun -/

@[simp] theorem endRun_a (s : State) : (endRun s).a = s.a := rfl
@[simp] theorem endRun_x (s : State) : (endRun s).x = s.x := rfl
@[simp] theorem endRun_y (s : State) : (endRun s).y = s.y := rfl
@[simp] theorem endRun_sp (s : State) : (endRun s).sp = s.sp := rfl
@[simp] theorem endRun_pc (s : State) : (endRun s).pc = s.pc := rfl
@[simp] theorem endRun_flags (s : State) : (endRun s).flags = s.flags := rfl
@[simp] theorem endRun_ram (s : State) : (endRun s).ram = s.ram := rfl
@[simp] theorem endRun_dspRegs (s : State) : (endRun s).dspRegs = s.dspRegs := rfl
@[simp] theorem endRun_timers (s : State) : (endRun s).timers = s.timers := rfl
@[simp] theorem endRun_time (s : State) : (endRun s).time = s.time := rfl
@[simp] theorem endRun_target (s : State) : (endRun s).target = s.target := rfl
@[simp] theorem endRun_halted (s : State) : (endRun s).halted = s.halted := rfl
@[simp] theorem endRun_fault (s : State) : (endRun s).fault = s.fault := rfl
@[simp] theorem endRun_everyOther (s : State) : (endRun s).everyOther = s.everyOther := rfl
@[simp] theorem endRun_rateCounter (s : State) : (endRun s).rateCounter = s.rateCounter := rfl
@[simp] theorem endRun_konLatch (s : State) : (endRun s).konLatch = s.konLatch := rfl
@[simp] theorem endRun_kofLatch (s : State) : (endRun s).kofLatch = s.kofLatch := rfl
@[simp] theorem endRun_voices (s : State) : (endRun s).voices = s.voices := rfl
@[simp] theorem endRun_frame (s : State) : (endRun s).frame = s.frame := rfl
@[simp] theorem endRun_params (s : State) : (endRun s).params = s.params := rfl

/-! ### commitCost -/

@[simp] theorem commitCost_a (op : Byte) (s : State) : (commitCost op s).a = s.a := rfl
@[simp] theorem commitCost_x (op : Byte) (s : State) : (commitCost op s).x = s.x := rfl
@[simp] theorem commitCost_y (op : Byte) (s : State) : (commitCost op s).y = s.y := rfl
@[simp] theorem commitCost_sp (op : Byte) (s : State) : (commitCost op s).sp = s.sp := rfl
@[simp] theorem commitCost_pc (op : Byte) (s : State) : (commitCost op s).pc = s.pc := rfl
@[simp] theorem commitCost_flags (op : Byte) (s : State) : (commitCost op s).flags = s.flags := rfl
@[simp] theorem commitCost_ram (op : Byte) (s : State) : (commitCost op s).ram = s.ram := rfl
@[simp] theorem commitCost_dspRegs (op : Byte) (s : State) : (commitCost op s).dspRegs = s.dspRegs := rfl
@[simp] theorem commitCost_timers (op : Byte) (s : State) : (commitCost op s).timers = s.timers := rfl
@[simp] theorem commitCost_target (op : Byte) (s : State) : (commitCost op s).target = s.target := rfl
@[simp] theorem commitCost_halted (op : Byte) (s : State) : (commitCost op s).halted = s.halted := rfl
@[simp] theorem commitCost_fault (op : Byte) (s : State) : (commitCost op s).fault = s.fault := rfl
@[simp] theorem commitCost_everyOther (op : Byte) (s : State) : (commitCost op s).everyOther = s.everyOther := rfl
@[simp] theorem commitCost_rateCounter (op : Byte) (s : State) : (commitCost op s).rateCounter = s.rateCounter := rfl
@[simp] theorem commitCost_konLatch (op : Byte) (s : State) : (commitCost op s).konLatch = s.konLatch := rfl
@[simp] theorem commitCost_kofLatch (op : Byte) (s : State) : (commitCost op s).kofLatch = s.kofLatch := rfl
@[simp] theorem commitCost_voices (op : Byte) (s : State) : (commitCost op s).voices = s.voices := rfl
@[simp] theorem commitCost_phase (op : Byte) (s : State) : (commitCost op s).phase = s.phase := rfl
@[simp] theorem commitCost_frame (op : Byte) (s : State) : (commitCost op s).frame = s.frame := rfl
@[simp] theorem commitCost_params (op : Byte) (s : State) : (commitCost op s).params = s.params := rfl

/-! ### setReg, by the register -/

@[simp] theorem State.setReg_sp (s : State) (r : Reg8) (v : Byte) : (s.setReg r v).sp = s.sp := by cases r <;> rfl
@[simp] theorem State.setReg_pc (s : State) (r : Reg8) (v : Byte) : (s.setReg r v).pc = s.pc := by cases r <;> rfl
@[simp] theorem State.setReg_flags (s : State) (r : Reg8) (v : Byte) : (s.setReg r v).flags = s.flags := by cases r <;> rfl
@[simp] theorem State.setReg_ram (s : State) (r : Reg8) (v : Byte) : (s.setReg r v).ram = s.ram := by cases r <;> rfl
@[simp] theorem State.setReg_dspRegs (s : State) (r : Reg8) (v : Byte) : (s.setReg r v).dspRegs = s.dspRegs := by cases r <;> rfl
@[simp] theorem State.setReg_timers (s : State) (r : Reg8) (v : Byte) : (s.setReg r v).timers = s.timers := by cases r <;> rfl
@[simp] theorem State.setReg_time (s : State) (r : Reg8) (v : Byte) : (s.setReg r v).time = s.time := by cases r <;> rfl
@[simp] theorem State.setReg_target (s : State) (r : Reg8) (v : Byte) : (s.setReg r v).target = s.target := by cases r <;> rfl
@[simp] theorem State.setReg_halted (s : State) (r : Reg8) (v : Byte) : (s.setReg r v).halted = s.halted := by cases r <;> rfl
@[simp] theorem State.setReg_fault (s : State) (r : Reg8) (v : Byte) : (s.setReg r v).fault = s.fault := by cases r <;> rfl
@[simp] theorem State.setReg_everyOther (s : State) (r : Reg8) (v : Byte) : (s.setReg r v).everyOther = s.everyOther := by cases r <;> rfl
@[simp] theorem State.setReg_rateCounter (s : State) (r : Reg8) (v : Byte) : (s.setReg r v).rateCounter = s.rateCounter := by cases r <;> rfl
@[simp] theorem State.setReg_konLatch (s : State) (r : Reg8) (v : Byte) : (s.setReg r v).konLatch = s.konLatch := by cases r <;> rfl
@[simp] theorem State.setReg_kofLatch (s : State) (r : Reg8) (v : Byte) : (s.setReg r v).kofLatch = s.kofLatch := by cases r <;> rfl
@[simp] theorem State.setReg_voices (s : State) (r : Reg8) (v : Byte) : (s.setReg r v).voices = s.voices := by cases r <;> rfl
@[simp] theorem State.setReg_phase (s : State) (r : Reg8) (v : Byte) : (s.setReg r v).phase = s.phase := by cases r <;> rfl
@[simp] theorem State.setReg_frame (s : State) (r : Reg8) (v : Byte) : (s.setReg r v).frame = s.frame := by cases r <;> rfl
@[simp] theorem State.setReg_params (s : State) (r : Reg8) (v : Byte) : (s.setReg r v).params = s.params := by cases r <;> rfl

/-! ### What the updates write -/

@[simp] theorem State.setReg_reg_same (s : State) (r : Reg8) (v : Byte) : (s.setReg r v).reg r = v := by cases r <;> rfl
theorem State.setReg_reg_other (s : State) (r q : Reg8) (v : Byte) (h : q ≠ r) : (s.setReg r v).reg q = s.reg q := by
  cases r <;> cases q <;> first | rfl | exact absurd rfl h

@[simp] theorem setNZ8_flags (v : Byte) (s : State) :
    (setNZ8 v s).flags = { s.flags with n := v.msb, z := decide (v = 0) } := rfl
@[simp] theorem setNZ16_flags (w : Word) (s : State) :
    (setNZ16 w s).flags = { s.flags with n := w.msb, z := decide (w = 0) } := rfl
@[simp] theorem setC_flags (c : Bool) (s : State) : (setC c s).flags = { s.flags with c := c } := rfl
@[simp] theorem setV_flags (c : Bool) (s : State) : (setV c s).flags = { s.flags with v := c } := rfl
@[simp] theorem setP_flags (c : Bool) (s : State) : (setP c s).flags = { s.flags with p := c } := rfl
@[simp] theorem setH_flags (c : Bool) (s : State) : (setH c s).flags = { s.flags with h := s.hib c } := rfl
@[simp] theorem setI_flags (c : Bool) (s : State) : (setI c s).flags = { s.flags with i := s.hib c } := rfl
@[simp] theorem State.setYa_a (s : State) (w : Word) : (s.setYa w).a = w.lo := rfl
@[simp] theorem State.setYa_y (s : State) (w : Word) : (s.setYa w).y = w.hi := rfl
@[simp] theorem State.poke_ram (s : State) (m : Word) (v : Byte) : (s.poke m v).ram = Memory.write s.ram m.toNat v := rfl
@[simp] theorem commitCost_time (op : Byte) (s : State) : (commitCost op s).time = s.time + opCycles op := rfl
@[simp] theorem openCall_target (s : State) : (openCall s).target = s.target + samplePeriod := rfl
@[simp] theorem openCall_phase (s : State) : (openCall s).phase = .cpu := rfl
@[simp] theorem endRun_phase (s : State) : (endRun s).phase = .dsp := rfl
@[simp] theorem State.setVoice_voices (s : State) (v : Fin 8) (vo : Voice) :
    (s.setVoice v vo).voices = s.voices.set v vo := rfl

/-- The byte read after a change that leaves `ram` alone. -/
theorem State.peek_congr (s t : State) (h : t.ram = s.ram) (b : Word) : t.peek b = s.peek b := by
  simp only [State.peek, h]

end Sys2Proof.Machine
end

