-- ==== Sys2Proof/Laws/Ops.lean ====
section
/-! SUPPORT. Laws/Ops.lean: what each shared operation over memory, registers and flags can change, said once, so that no
later proof unfolds one: first every field an operation leaves alone, then what it does to RAM, then that it keeps the
canonical form of RAM. -/

namespace Sys2Proof.Machine

/-! ### State.readCounter -/

@[simp] theorem State.readCounter_snd_a (s : State) (i : Fin 3) : ((s.readCounter i).2).a = s.a := rfl
@[simp] theorem State.readCounter_snd_x (s : State) (i : Fin 3) : ((s.readCounter i).2).x = s.x := rfl
@[simp] theorem State.readCounter_snd_y (s : State) (i : Fin 3) : ((s.readCounter i).2).y = s.y := rfl
@[simp] theorem State.readCounter_snd_sp (s : State) (i : Fin 3) : ((s.readCounter i).2).sp = s.sp := rfl
@[simp] theorem State.readCounter_snd_pc (s : State) (i : Fin 3) : ((s.readCounter i).2).pc = s.pc := rfl
@[simp] theorem State.readCounter_snd_flags (s : State) (i : Fin 3) : ((s.readCounter i).2).flags = s.flags := rfl
@[simp] theorem State.readCounter_snd_ram (s : State) (i : Fin 3) : ((s.readCounter i).2).ram = s.ram := rfl
@[simp] theorem State.readCounter_snd_dspRegs (s : State) (i : Fin 3) : ((s.readCounter i).2).dspRegs = s.dspRegs := rfl
@[simp] theorem State.readCounter_snd_time (s : State) (i : Fin 3) : ((s.readCounter i).2).time = s.time := rfl
@[simp] theorem State.readCounter_snd_target (s : State) (i : Fin 3) : ((s.readCounter i).2).target = s.target := rfl
@[simp] theorem State.readCounter_snd_halted (s : State) (i : Fin 3) : ((s.readCounter i).2).halted = s.halted := rfl
@[simp] theorem State.readCounter_snd_fault (s : State) (i : Fin 3) : ((s.readCounter i).2).fault = s.fault := rfl
@[simp] theorem State.readCounter_snd_everyOther (s : State) (i : Fin 3) : ((s.readCounter i).2).everyOther = s.everyOther := rfl
@[simp] theorem State.readCounter_snd_rateCounter (s : State) (i : Fin 3) : ((s.readCounter i).2).rateCounter = s.rateCounter := rfl
@[simp] theorem State.readCounter_snd_konLatch (s : State) (i : Fin 3) : ((s.readCounter i).2).konLatch = s.konLatch := rfl
@[simp] theorem State.readCounter_snd_kofLatch (s : State) (i : Fin 3) : ((s.readCounter i).2).kofLatch = s.kofLatch := rfl
@[simp] theorem State.readCounter_snd_voices (s : State) (i : Fin 3) : ((s.readCounter i).2).voices = s.voices := rfl
@[simp] theorem State.readCounter_snd_phase (s : State) (i : Fin 3) : ((s.readCounter i).2).phase = s.phase := rfl
@[simp] theorem State.readCounter_snd_frame (s : State) (i : Fin 3) : ((s.readCounter i).2).frame = s.frame := rfl
@[simp] theorem State.readCounter_snd_params (s : State) (i : Fin 3) : ((s.readCounter i).2).params = s.params := rfl

/-! ### memRead -/

/-- R101: a read changes RAM and the timers at most. -/
theorem memRead_eq (m : Word) (s : State) :
    (memRead m s).2 = { s with ram := (memRead m s).2.ram, timers := (memRead m s).2.timers } := by
  unfold memRead
  split
  · rfl
  · dsimp only
    split <;> rfl

/-! ### memRead -/

@[simp] theorem memRead_snd_a (m : Word) (s : State) : ((memRead m s).2).a = s.a := by rw [memRead_eq]
@[simp] theorem memRead_snd_x (m : Word) (s : State) : ((memRead m s).2).x = s.x := by rw [memRead_eq]
@[simp] theorem memRead_snd_y (m : Word) (s : State) : ((memRead m s).2).y = s.y := by rw [memRead_eq]
@[simp] theorem memRead_snd_sp (m : Word) (s : State) : ((memRead m s).2).sp = s.sp := by rw [memRead_eq]
@[simp] theorem memRead_snd_pc (m : Word) (s : State) : ((memRead m s).2).pc = s.pc := by rw [memRead_eq]
@[simp] theorem memRead_snd_flags (m : Word) (s : State) : ((memRead m s).2).flags = s.flags := by rw [memRead_eq]
@[simp] theorem memRead_snd_dspRegs (m : Word) (s : State) : ((memRead m s).2).dspRegs = s.dspRegs := by rw [memRead_eq]
@[simp] theorem memRead_snd_time (m : Word) (s : State) : ((memRead m s).2).time = s.time := by rw [memRead_eq]
@[simp] theorem memRead_snd_target (m : Word) (s : State) : ((memRead m s).2).target = s.target := by rw [memRead_eq]
@[simp] theorem memRead_snd_halted (m : Word) (s : State) : ((memRead m s).2).halted = s.halted := by rw [memRead_eq]
@[simp] theorem memRead_snd_fault (m : Word) (s : State) : ((memRead m s).2).fault = s.fault := by rw [memRead_eq]
@[simp] theorem memRead_snd_everyOther (m : Word) (s : State) : ((memRead m s).2).everyOther = s.everyOther := by rw [memRead_eq]
@[simp] theorem memRead_snd_rateCounter (m : Word) (s : State) : ((memRead m s).2).rateCounter = s.rateCounter := by rw [memRead_eq]
@[simp] theorem memRead_snd_konLatch (m : Word) (s : State) : ((memRead m s).2).konLatch = s.konLatch := by rw [memRead_eq]
@[simp] theorem memRead_snd_kofLatch (m : Word) (s : State) : ((memRead m s).2).kofLatch = s.kofLatch := by rw [memRead_eq]
@[simp] theorem memRead_snd_voices (m : Word) (s : State) : ((memRead m s).2).voices = s.voices := by rw [memRead_eq]
@[simp] theorem memRead_snd_phase (m : Word) (s : State) : ((memRead m s).2).phase = s.phase := by rw [memRead_eq]
@[simp] theorem memRead_snd_frame (m : Word) (s : State) : ((memRead m s).2).frame = s.frame := by rw [memRead_eq]
@[simp] theorem memRead_snd_params (m : Word) (s : State) : ((memRead m s).2).params = s.params := by rw [memRead_eq]

/-! ### writeEffect and memWrite -/

/-- R102: a write's effect beside the byte changes the timers and the DSP bank at most. -/
theorem writeEffect_eq (m : Word) (v : Byte) (s : State) :
    writeEffect m v s = { s with dspRegs := (writeEffect m v s).dspRegs, timers := (writeEffect m v s).timers } := by
  unfold writeEffect
  split
  · rfl
  · split
    · rfl
    · split <;> rfl

/-! ### writeEffect -/

@[simp] theorem writeEffect_a (m : Word) (v : Byte) (s : State) : (writeEffect m v s).a = s.a := by rw [writeEffect_eq]
@[simp] theorem writeEffect_x (m : Word) (v : Byte) (s : State) : (writeEffect m v s).x = s.x := by rw [writeEffect_eq]
@[simp] theorem writeEffect_y (m : Word) (v : Byte) (s : State) : (writeEffect m v s).y = s.y := by rw [writeEffect_eq]
@[simp] theorem writeEffect_sp (m : Word) (v : Byte) (s : State) : (writeEffect m v s).sp = s.sp := by rw [writeEffect_eq]
@[simp] theorem writeEffect_pc (m : Word) (v : Byte) (s : State) : (writeEffect m v s).pc = s.pc := by rw [writeEffect_eq]
@[simp] theorem writeEffect_flags (m : Word) (v : Byte) (s : State) : (writeEffect m v s).flags = s.flags := by rw [writeEffect_eq]
@[simp] theorem writeEffect_ram (m : Word) (v : Byte) (s : State) : (writeEffect m v s).ram = s.ram := by rw [writeEffect_eq]
@[simp] theorem writeEffect_time (m : Word) (v : Byte) (s : State) : (writeEffect m v s).time = s.time := by rw [writeEffect_eq]
@[simp] theorem writeEffect_target (m : Word) (v : Byte) (s : State) : (writeEffect m v s).target = s.target := by rw [writeEffect_eq]
@[simp] theorem writeEffect_halted (m : Word) (v : Byte) (s : State) : (writeEffect m v s).halted = s.halted := by rw [writeEffect_eq]
@[simp] theorem writeEffect_fault (m : Word) (v : Byte) (s : State) : (writeEffect m v s).fault = s.fault := by rw [writeEffect_eq]
@[simp] theorem writeEffect_everyOther (m : Word) (v : Byte) (s : State) : (writeEffect m v s).everyOther = s.everyOther := by rw [writeEffect_eq]
@[simp] theorem writeEffect_rateCounter (m : Word) (v : Byte) (s : State) : (writeEffect m v s).rateCounter = s.rateCounter := by rw [writeEffect_eq]
@[simp] theorem writeEffect_konLatch (m : Word) (v : Byte) (s : State) : (writeEffect m v s).konLatch = s.konLatch := by rw [writeEffect_eq]
@[simp] theorem writeEffect_kofLatch (m : Word) (v : Byte) (s : State) : (writeEffect m v s).kofLatch = s.kofLatch := by rw [writeEffect_eq]
@[simp] theorem writeEffect_voices (m : Word) (v : Byte) (s : State) : (writeEffect m v s).voices = s.voices := by rw [writeEffect_eq]
@[simp] theorem writeEffect_phase (m : Word) (v : Byte) (s : State) : (writeEffect m v s).phase = s.phase := by rw [writeEffect_eq]
@[simp] theorem writeEffect_frame (m : Word) (v : Byte) (s : State) : (writeEffect m v s).frame = s.frame := by rw [writeEffect_eq]
@[simp] theorem writeEffect_params (m : Word) (v : Byte) (s : State) : (writeEffect m v s).params = s.params := by rw [writeEffect_eq]

/-! ### memWrite -/

@[simp] theorem memWrite_a (m : Word) (v : Byte) (s : State) : (memWrite m v s).a = s.a := by simp [memWrite]
@[simp] theorem memWrite_x (m : Word) (v : Byte) (s : State) : (memWrite m v s).x = s.x := by simp [memWrite]
@[simp] theorem memWrite_y (m : Word) (v : Byte) (s : State) : (memWrite m v s).y = s.y := by simp [memWrite]
@[simp] theorem memWrite_sp (m : Word) (v : Byte) (s : State) : (memWrite m v s).sp = s.sp := by simp [memWrite]
@[simp] theorem memWrite_pc (m : Word) (v : Byte) (s : State) : (memWrite m v s).pc = s.pc := by simp [memWrite]
@[simp] theorem memWrite_flags (m : Word) (v : Byte) (s : State) : (memWrite m v s).flags = s.flags := by simp [memWrite]
@[simp] theorem memWrite_time (m : Word) (v : Byte) (s : State) : (memWrite m v s).time = s.time := by simp [memWrite]
@[simp] theorem memWrite_target (m : Word) (v : Byte) (s : State) : (memWrite m v s).target = s.target := by simp [memWrite]
@[simp] theorem memWrite_halted (m : Word) (v : Byte) (s : State) : (memWrite m v s).halted = s.halted := by simp [memWrite]
@[simp] theorem memWrite_fault (m : Word) (v : Byte) (s : State) : (memWrite m v s).fault = s.fault := by simp [memWrite]
@[simp] theorem memWrite_everyOther (m : Word) (v : Byte) (s : State) : (memWrite m v s).everyOther = s.everyOther := by simp [memWrite]
@[simp] theorem memWrite_rateCounter (m : Word) (v : Byte) (s : State) : (memWrite m v s).rateCounter = s.rateCounter := by simp [memWrite]
@[simp] theorem memWrite_konLatch (m : Word) (v : Byte) (s : State) : (memWrite m v s).konLatch = s.konLatch := by simp [memWrite]
@[simp] theorem memWrite_kofLatch (m : Word) (v : Byte) (s : State) : (memWrite m v s).kofLatch = s.kofLatch := by simp [memWrite]
@[simp] theorem memWrite_voices (m : Word) (v : Byte) (s : State) : (memWrite m v s).voices = s.voices := by simp [memWrite]
@[simp] theorem memWrite_phase (m : Word) (v : Byte) (s : State) : (memWrite m v s).phase = s.phase := by simp [memWrite]
@[simp] theorem memWrite_frame (m : Word) (v : Byte) (s : State) : (memWrite m v s).frame = s.frame := by simp [memWrite]
@[simp] theorem memWrite_params (m : Word) (v : Byte) (s : State) : (memWrite m v s).params = s.params := by simp [memWrite]

/-! ### readWordDp -/

@[simp] theorem readWordDp_snd_a (o : Byte) (s : State) : ((readWordDp o s).2).a = s.a := by simp [readWordDp]
@[simp] theorem readWordDp_snd_x (o : Byte) (s : State) : ((readWordDp o s).2).x = s.x := by simp [readWordDp]
@[simp] theorem readWordDp_snd_y (o : Byte) (s : State) : ((readWordDp o s).2).y = s.y := by simp [readWordDp]
@[simp] theorem readWordDp_snd_sp (o : Byte) (s : State) : ((readWordDp o s).2).sp = s.sp := by simp [readWordDp]
@[simp] theorem readWordDp_snd_pc (o : Byte) (s : State) : ((readWordDp o s).2).pc = s.pc := by simp [readWordDp]
@[simp] theorem readWordDp_snd_flags (o : Byte) (s : State) : ((readWordDp o s).2).flags = s.flags := by simp [readWordDp]
@[simp] theorem readWordDp_snd_dspRegs (o : Byte) (s : State) : ((readWordDp o s).2).dspRegs = s.dspRegs := by simp [readWordDp]
@[simp] theorem readWordDp_snd_time (o : Byte) (s : State) : ((readWordDp o s).2).time = s.time := by simp [readWordDp]
@[simp] theorem readWordDp_snd_target (o : Byte) (s : State) : ((readWordDp o s).2).target = s.target := by simp [readWordDp]
@[simp] theorem readWordDp_snd_halted (o : Byte) (s : State) : ((readWordDp o s).2).halted = s.halted := by simp [readWordDp]
@[simp] theorem readWordDp_snd_fault (o : Byte) (s : State) : ((readWordDp o s).2).fault = s.fault := by simp [readWordDp]
@[simp] theorem readWordDp_snd_everyOther (o : Byte) (s : State) : ((readWordDp o s).2).everyOther = s.everyOther := by simp [readWordDp]
@[simp] theorem readWordDp_snd_rateCounter (o : Byte) (s : State) : ((readWordDp o s).2).rateCounter = s.rateCounter := by simp [readWordDp]
@[simp] theorem readWordDp_snd_konLatch (o : Byte) (s : State) : ((readWordDp o s).2).konLatch = s.konLatch := by simp [readWordDp]
@[simp] theorem readWordDp_snd_kofLatch (o : Byte) (s : State) : ((readWordDp o s).2).kofLatch = s.kofLatch := by simp [readWordDp]
@[simp] theorem readWordDp_snd_voices (o : Byte) (s : State) : ((readWordDp o s).2).voices = s.voices := by simp [readWordDp]
@[simp] theorem readWordDp_snd_phase (o : Byte) (s : State) : ((readWordDp o s).2).phase = s.phase := by simp [readWordDp]
@[simp] theorem readWordDp_snd_frame (o : Byte) (s : State) : ((readWordDp o s).2).frame = s.frame := by simp [readWordDp]
@[simp] theorem readWordDp_snd_params (o : Byte) (s : State) : ((readWordDp o s).2).params = s.params := by simp [readWordDp]

/-! ### readWord -/

@[simp] theorem readWord_snd_a (p : Word) (s : State) : ((readWord p s).2).a = s.a := by simp [readWord]
@[simp] theorem readWord_snd_x (p : Word) (s : State) : ((readWord p s).2).x = s.x := by simp [readWord]
@[simp] theorem readWord_snd_y (p : Word) (s : State) : ((readWord p s).2).y = s.y := by simp [readWord]
@[simp] theorem readWord_snd_sp (p : Word) (s : State) : ((readWord p s).2).sp = s.sp := by simp [readWord]
@[simp] theorem readWord_snd_pc (p : Word) (s : State) : ((readWord p s).2).pc = s.pc := by simp [readWord]
@[simp] theorem readWord_snd_flags (p : Word) (s : State) : ((readWord p s).2).flags = s.flags := by simp [readWord]
@[simp] theorem readWord_snd_dspRegs (p : Word) (s : State) : ((readWord p s).2).dspRegs = s.dspRegs := by simp [readWord]
@[simp] theorem readWord_snd_time (p : Word) (s : State) : ((readWord p s).2).time = s.time := by simp [readWord]
@[simp] theorem readWord_snd_target (p : Word) (s : State) : ((readWord p s).2).target = s.target := by simp [readWord]
@[simp] theorem readWord_snd_halted (p : Word) (s : State) : ((readWord p s).2).halted = s.halted := by simp [readWord]
@[simp] theorem readWord_snd_fault (p : Word) (s : State) : ((readWord p s).2).fault = s.fault := by simp [readWord]
@[simp] theorem readWord_snd_everyOther (p : Word) (s : State) : ((readWord p s).2).everyOther = s.everyOther := by simp [readWord]
@[simp] theorem readWord_snd_rateCounter (p : Word) (s : State) : ((readWord p s).2).rateCounter = s.rateCounter := by simp [readWord]
@[simp] theorem readWord_snd_konLatch (p : Word) (s : State) : ((readWord p s).2).konLatch = s.konLatch := by simp [readWord]
@[simp] theorem readWord_snd_kofLatch (p : Word) (s : State) : ((readWord p s).2).kofLatch = s.kofLatch := by simp [readWord]
@[simp] theorem readWord_snd_voices (p : Word) (s : State) : ((readWord p s).2).voices = s.voices := by simp [readWord]
@[simp] theorem readWord_snd_phase (p : Word) (s : State) : ((readWord p s).2).phase = s.phase := by simp [readWord]
@[simp] theorem readWord_snd_frame (p : Word) (s : State) : ((readWord p s).2).frame = s.frame := by simp [readWord]
@[simp] theorem readWord_snd_params (p : Word) (s : State) : ((readWord p s).2).params = s.params := by simp [readWord]

/-! ### push -/

@[simp] theorem push_a (v : Byte) (s : State) : (push v s).a = s.a := by simp [push]
@[simp] theorem push_x (v : Byte) (s : State) : (push v s).x = s.x := by simp [push]
@[simp] theorem push_y (v : Byte) (s : State) : (push v s).y = s.y := by simp [push]
@[simp] theorem push_pc (v : Byte) (s : State) : (push v s).pc = s.pc := by simp [push]
@[simp] theorem push_flags (v : Byte) (s : State) : (push v s).flags = s.flags := by simp [push]
@[simp] theorem push_time (v : Byte) (s : State) : (push v s).time = s.time := by simp [push]
@[simp] theorem push_target (v : Byte) (s : State) : (push v s).target = s.target := by simp [push]
@[simp] theorem push_halted (v : Byte) (s : State) : (push v s).halted = s.halted := by simp [push]
@[simp] theorem push_fault (v : Byte) (s : State) : (push v s).fault = s.fault := by simp [push]
@[simp] theorem push_everyOther (v : Byte) (s : State) : (push v s).everyOther = s.everyOther := by simp [push]
@[simp] theorem push_rateCounter (v : Byte) (s : State) : (push v s).rateCounter = s.rateCounter := by simp [push]
@[simp] theorem push_konLatch (v : Byte) (s : State) : (push v s).konLatch = s.konLatch := by simp [push]
@[simp] theorem push_kofLatch (v : Byte) (s : State) : (push v s).kofLatch = s.kofLatch := by simp [push]
@[simp] theorem push_voices (v : Byte) (s : State) : (push v s).voices = s.voices := by simp [push]
@[simp] theorem push_phase (v : Byte) (s : State) : (push v s).phase = s.phase := by simp [push]
@[simp] theorem push_frame (v : Byte) (s : State) : (push v s).frame = s.frame := by simp [push]
@[simp] theorem push_params (v : Byte) (s : State) : (push v s).params = s.params := by simp [push]

@[simp] theorem push_sp (v : Byte) (s : State) : (push v s).sp = s.sp - 1 := by simp [push]

/-! ### pop -/

@[simp] theorem pop_snd_a (s : State) : ((pop s).2).a = s.a := by simp [pop]
@[simp] theorem pop_snd_x (s : State) : ((pop s).2).x = s.x := by simp [pop]
@[simp] theorem pop_snd_y (s : State) : ((pop s).2).y = s.y := by simp [pop]
@[simp] theorem pop_snd_pc (s : State) : ((pop s).2).pc = s.pc := by simp [pop]
@[simp] theorem pop_snd_flags (s : State) : ((pop s).2).flags = s.flags := by simp [pop]
@[simp] theorem pop_snd_dspRegs (s : State) : ((pop s).2).dspRegs = s.dspRegs := by simp [pop]
@[simp] theorem pop_snd_time (s : State) : ((pop s).2).time = s.time := by simp [pop]
@[simp] theorem pop_snd_target (s : State) : ((pop s).2).target = s.target := by simp [pop]
@[simp] theorem pop_snd_halted (s : State) : ((pop s).2).halted = s.halted := by simp [pop]
@[simp] theorem pop_snd_fault (s : State) : ((pop s).2).fault = s.fault := by simp [pop]
@[simp] theorem pop_snd_everyOther (s : State) : ((pop s).2).everyOther = s.everyOther := by simp [pop]
@[simp] theorem pop_snd_rateCounter (s : State) : ((pop s).2).rateCounter = s.rateCounter := by simp [pop]
@[simp] theorem pop_snd_konLatch (s : State) : ((pop s).2).konLatch = s.konLatch := by simp [pop]
@[simp] theorem pop_snd_kofLatch (s : State) : ((pop s).2).kofLatch = s.kofLatch := by simp [pop]
@[simp] theorem pop_snd_voices (s : State) : ((pop s).2).voices = s.voices := by simp [pop]
@[simp] theorem pop_snd_phase (s : State) : ((pop s).2).phase = s.phase := by simp [pop]
@[simp] theorem pop_snd_frame (s : State) : ((pop s).2).frame = s.frame := by simp [pop]
@[simp] theorem pop_snd_params (s : State) : ((pop s).2).params = s.params := by simp [pop]

@[simp] theorem pop_snd_sp (s : State) : (pop s).2.sp = s.sp + 1 := by simp [pop]

/-! ### pushPc -/

@[simp] theorem pushPc_a (s : State) : (pushPc s).a = s.a := by simp [pushPc]
@[simp] theorem pushPc_x (s : State) : (pushPc s).x = s.x := by simp [pushPc]
@[simp] theorem pushPc_y (s : State) : (pushPc s).y = s.y := by simp [pushPc]
@[simp] theorem pushPc_pc (s : State) : (pushPc s).pc = s.pc := by simp [pushPc]
@[simp] theorem pushPc_flags (s : State) : (pushPc s).flags = s.flags := by simp [pushPc]
@[simp] theorem pushPc_time (s : State) : (pushPc s).time = s.time := by simp [pushPc]
@[simp] theorem pushPc_target (s : State) : (pushPc s).target = s.target := by simp [pushPc]
@[simp] theorem pushPc_halted (s : State) : (pushPc s).halted = s.halted := by simp [pushPc]
@[simp] theorem pushPc_fault (s : State) : (pushPc s).fault = s.fault := by simp [pushPc]
@[simp] theorem pushPc_everyOther (s : State) : (pushPc s).everyOther = s.everyOther := by simp [pushPc]
@[simp] theorem pushPc_rateCounter (s : State) : (pushPc s).rateCounter = s.rateCounter := by simp [pushPc]
@[simp] theorem pushPc_konLatch (s : State) : (pushPc s).konLatch = s.konLatch := by simp [pushPc]
@[simp] theorem pushPc_kofLatch (s : State) : (pushPc s).kofLatch = s.kofLatch := by simp [pushPc]
@[simp] theorem pushPc_voices (s : State) : (pushPc s).voices = s.voices := by simp [pushPc]
@[simp] theorem pushPc_phase (s : State) : (pushPc s).phase = s.phase := by simp [pushPc]
@[simp] theorem pushPc_frame (s : State) : (pushPc s).frame = s.frame := by simp [pushPc]
@[simp] theorem pushPc_params (s : State) : (pushPc s).params = s.params := by simp [pushPc]

@[simp] theorem pushPc_sp (s : State) : (pushPc s).sp = s.sp - 1 - 1 := by simp [pushPc]

/-! ### popPc -/

@[simp] theorem popPc_a (s : State) : (popPc s).a = s.a := by simp [popPc]
@[simp] theorem popPc_x (s : State) : (popPc s).x = s.x := by simp [popPc]
@[simp] theorem popPc_y (s : State) : (popPc s).y = s.y := by simp [popPc]
@[simp] theorem popPc_flags (s : State) : (popPc s).flags = s.flags := by simp [popPc]
@[simp] theorem popPc_dspRegs (s : State) : (popPc s).dspRegs = s.dspRegs := by simp [popPc]
@[simp] theorem popPc_time (s : State) : (popPc s).time = s.time := by simp [popPc]
@[simp] theorem popPc_target (s : State) : (popPc s).target = s.target := by simp [popPc]
@[simp] theorem popPc_halted (s : State) : (popPc s).halted = s.halted := by simp [popPc]
@[simp] theorem popPc_fault (s : State) : (popPc s).fault = s.fault := by simp [popPc]
@[simp] theorem popPc_everyOther (s : State) : (popPc s).everyOther = s.everyOther := by simp [popPc]
@[simp] theorem popPc_rateCounter (s : State) : (popPc s).rateCounter = s.rateCounter := by simp [popPc]
@[simp] theorem popPc_konLatch (s : State) : (popPc s).konLatch = s.konLatch := by simp [popPc]
@[simp] theorem popPc_kofLatch (s : State) : (popPc s).kofLatch = s.kofLatch := by simp [popPc]
@[simp] theorem popPc_voices (s : State) : (popPc s).voices = s.voices := by simp [popPc]
@[simp] theorem popPc_phase (s : State) : (popPc s).phase = s.phase := by simp [popPc]
@[simp] theorem popPc_frame (s : State) : (popPc s).frame = s.frame := by simp [popPc]
@[simp] theorem popPc_params (s : State) : (popPc s).params = s.params := by simp [popPc]

@[simp] theorem popPc_sp (s : State) : (popPc s).sp = s.sp + 1 + 1 := by simp [popPc]

/-! ### jumpThrough -/

@[simp] theorem jumpThrough_a (p : Word) (s : State) : (jumpThrough p s).a = s.a := by simp [jumpThrough]
@[simp] theorem jumpThrough_x (p : Word) (s : State) : (jumpThrough p s).x = s.x := by simp [jumpThrough]
@[simp] theorem jumpThrough_y (p : Word) (s : State) : (jumpThrough p s).y = s.y := by simp [jumpThrough]
@[simp] theorem jumpThrough_sp (p : Word) (s : State) : (jumpThrough p s).sp = s.sp := by simp [jumpThrough]
@[simp] theorem jumpThrough_flags (p : Word) (s : State) : (jumpThrough p s).flags = s.flags := by simp [jumpThrough]
@[simp] theorem jumpThrough_dspRegs (p : Word) (s : State) : (jumpThrough p s).dspRegs = s.dspRegs := by simp [jumpThrough]
@[simp] theorem jumpThrough_time (p : Word) (s : State) : (jumpThrough p s).time = s.time := by simp [jumpThrough]
@[simp] theorem jumpThrough_target (p : Word) (s : State) : (jumpThrough p s).target = s.target := by simp [jumpThrough]
@[simp] theorem jumpThrough_halted (p : Word) (s : State) : (jumpThrough p s).halted = s.halted := by simp [jumpThrough]
@[simp] theorem jumpThrough_fault (p : Word) (s : State) : (jumpThrough p s).fault = s.fault := by simp [jumpThrough]
@[simp] theorem jumpThrough_everyOther (p : Word) (s : State) : (jumpThrough p s).everyOther = s.everyOther := by simp [jumpThrough]
@[simp] theorem jumpThrough_rateCounter (p : Word) (s : State) : (jumpThrough p s).rateCounter = s.rateCounter := by simp [jumpThrough]
@[simp] theorem jumpThrough_konLatch (p : Word) (s : State) : (jumpThrough p s).konLatch = s.konLatch := by simp [jumpThrough]
@[simp] theorem jumpThrough_kofLatch (p : Word) (s : State) : (jumpThrough p s).kofLatch = s.kofLatch := by simp [jumpThrough]
@[simp] theorem jumpThrough_voices (p : Word) (s : State) : (jumpThrough p s).voices = s.voices := by simp [jumpThrough]
@[simp] theorem jumpThrough_phase (p : Word) (s : State) : (jumpThrough p s).phase = s.phase := by simp [jumpThrough]
@[simp] theorem jumpThrough_frame (p : Word) (s : State) : (jumpThrough p s).frame = s.frame := by simp [jumpThrough]
@[simp] theorem jumpThrough_params (p : Word) (s : State) : (jumpThrough p s).params = s.params := by simp [jumpThrough]

/-! ### Mode.ea -/

@[simp] theorem Mode.ea_snd_a (m : Mode) (s : State) : ((m.ea s).2).a = s.a := by cases m <;> simp [Mode.ea]
@[simp] theorem Mode.ea_snd_x (m : Mode) (s : State) : ((m.ea s).2).x = s.x := by cases m <;> simp [Mode.ea]
@[simp] theorem Mode.ea_snd_y (m : Mode) (s : State) : ((m.ea s).2).y = s.y := by cases m <;> simp [Mode.ea]
@[simp] theorem Mode.ea_snd_sp (m : Mode) (s : State) : ((m.ea s).2).sp = s.sp := by cases m <;> simp [Mode.ea]
@[simp] theorem Mode.ea_snd_pc (m : Mode) (s : State) : ((m.ea s).2).pc = s.pc := by cases m <;> simp [Mode.ea]
@[simp] theorem Mode.ea_snd_flags (m : Mode) (s : State) : ((m.ea s).2).flags = s.flags := by cases m <;> simp [Mode.ea]
@[simp] theorem Mode.ea_snd_dspRegs (m : Mode) (s : State) : ((m.ea s).2).dspRegs = s.dspRegs := by cases m <;> simp [Mode.ea]
@[simp] theorem Mode.ea_snd_time (m : Mode) (s : State) : ((m.ea s).2).time = s.time := by cases m <;> simp [Mode.ea]
@[simp] theorem Mode.ea_snd_target (m : Mode) (s : State) : ((m.ea s).2).target = s.target := by cases m <;> simp [Mode.ea]
@[simp] theorem Mode.ea_snd_halted (m : Mode) (s : State) : ((m.ea s).2).halted = s.halted := by cases m <;> simp [Mode.ea]
@[simp] theorem Mode.ea_snd_fault (m : Mode) (s : State) : ((m.ea s).2).fault = s.fault := by cases m <;> simp [Mode.ea]
@[simp] theorem Mode.ea_snd_everyOther (m : Mode) (s : State) : ((m.ea s).2).everyOther = s.everyOther := by cases m <;> simp [Mode.ea]
@[simp] theorem Mode.ea_snd_rateCounter (m : Mode) (s : State) : ((m.ea s).2).rateCounter = s.rateCounter := by cases m <;> simp [Mode.ea]
@[simp] theorem Mode.ea_snd_konLatch (m : Mode) (s : State) : ((m.ea s).2).konLatch = s.konLatch := by cases m <;> simp [Mode.ea]
@[simp] theorem Mode.ea_snd_kofLatch (m : Mode) (s : State) : ((m.ea s).2).kofLatch = s.kofLatch := by cases m <;> simp [Mode.ea]
@[simp] theorem Mode.ea_snd_voices (m : Mode) (s : State) : ((m.ea s).2).voices = s.voices := by cases m <;> simp [Mode.ea]
@[simp] theorem Mode.ea_snd_phase (m : Mode) (s : State) : ((m.ea s).2).phase = s.phase := by cases m <;> simp [Mode.ea]
@[simp] theorem Mode.ea_snd_frame (m : Mode) (s : State) : ((m.ea s).2).frame = s.frame := by cases m <;> simp [Mode.ea]
@[simp] theorem Mode.ea_snd_params (m : Mode) (s : State) : ((m.ea s).2).params = s.params := by cases m <;> simp [Mode.ea]

/-! ### Source.read -/

@[simp] theorem Source.read_snd_a (src : Source) (s : State) : ((src.read s).2).a = s.a := by cases src <;> simp [Source.read]
@[simp] theorem Source.read_snd_x (src : Source) (s : State) : ((src.read s).2).x = s.x := by cases src <;> simp [Source.read]
@[simp] theorem Source.read_snd_y (src : Source) (s : State) : ((src.read s).2).y = s.y := by cases src <;> simp [Source.read]
@[simp] theorem Source.read_snd_sp (src : Source) (s : State) : ((src.read s).2).sp = s.sp := by cases src <;> simp [Source.read]
@[simp] theorem Source.read_snd_pc (src : Source) (s : State) : ((src.read s).2).pc = s.pc := by cases src <;> simp [Source.read]
@[simp] theorem Source.read_snd_flags (src : Source) (s : State) : ((src.read s).2).flags = s.flags := by cases src <;> simp [Source.read]
@[simp] theorem Source.read_snd_dspRegs (src : Source) (s : State) : ((src.read s).2).dspRegs = s.dspRegs := by cases src <;> simp [Source.read]
@[simp] theorem Source.read_snd_time (src : Source) (s : State) : ((src.read s).2).time = s.time := by cases src <;> simp [Source.read]
@[simp] theorem Source.read_snd_target (src : Source) (s : State) : ((src.read s).2).target = s.target := by cases src <;> simp [Source.read]
@[simp] theorem Source.read_snd_halted (src : Source) (s : State) : ((src.read s).2).halted = s.halted := by cases src <;> simp [Source.read]
@[simp] theorem Source.read_snd_fault (src : Source) (s : State) : ((src.read s).2).fault = s.fault := by cases src <;> simp [Source.read]
@[simp] theorem Source.read_snd_everyOther (src : Source) (s : State) : ((src.read s).2).everyOther = s.everyOther := by cases src <;> simp [Source.read]
@[simp] theorem Source.read_snd_rateCounter (src : Source) (s : State) : ((src.read s).2).rateCounter = s.rateCounter := by cases src <;> simp [Source.read]
@[simp] theorem Source.read_snd_konLatch (src : Source) (s : State) : ((src.read s).2).konLatch = s.konLatch := by cases src <;> simp [Source.read]
@[simp] theorem Source.read_snd_kofLatch (src : Source) (s : State) : ((src.read s).2).kofLatch = s.kofLatch := by cases src <;> simp [Source.read]
@[simp] theorem Source.read_snd_voices (src : Source) (s : State) : ((src.read s).2).voices = s.voices := by cases src <;> simp [Source.read]
@[simp] theorem Source.read_snd_phase (src : Source) (s : State) : ((src.read s).2).phase = s.phase := by cases src <;> simp [Source.read]
@[simp] theorem Source.read_snd_frame (src : Source) (s : State) : ((src.read s).2).frame = s.frame := by cases src <;> simp [Source.read]
@[simp] theorem Source.read_snd_params (src : Source) (s : State) : ((src.read s).2).params = s.params := by cases src <;> simp [Source.read]

/-! ### aluAdd -/

@[simp] theorem aluAdd_snd_a (d v : Byte) (s : State) : ((aluAdd d v s).2).a = s.a := by
  unfold aluAdd; dsimp only; split <;> split <;> rfl
@[simp] theorem aluAdd_snd_x (d v : Byte) (s : State) : ((aluAdd d v s).2).x = s.x := by
  unfold aluAdd; dsimp only; split <;> split <;> rfl
@[simp] theorem aluAdd_snd_y (d v : Byte) (s : State) : ((aluAdd d v s).2).y = s.y := by
  unfold aluAdd; dsimp only; split <;> split <;> rfl
@[simp] theorem aluAdd_snd_sp (d v : Byte) (s : State) : ((aluAdd d v s).2).sp = s.sp := by
  unfold aluAdd; dsimp only; split <;> split <;> rfl
@[simp] theorem aluAdd_snd_pc (d v : Byte) (s : State) : ((aluAdd d v s).2).pc = s.pc := by
  unfold aluAdd; dsimp only; split <;> split <;> rfl
@[simp] theorem aluAdd_snd_ram (d v : Byte) (s : State) : ((aluAdd d v s).2).ram = s.ram := by
  unfold aluAdd; dsimp only; split <;> split <;> rfl
@[simp] theorem aluAdd_snd_dspRegs (d v : Byte) (s : State) : ((aluAdd d v s).2).dspRegs = s.dspRegs := by
  unfold aluAdd; dsimp only; split <;> split <;> rfl
@[simp] theorem aluAdd_snd_timers (d v : Byte) (s : State) : ((aluAdd d v s).2).timers = s.timers := by
  unfold aluAdd; dsimp only; split <;> split <;> rfl
@[simp] theorem aluAdd_snd_time (d v : Byte) (s : State) : ((aluAdd d v s).2).time = s.time := by
  unfold aluAdd; dsimp only; split <;> split <;> rfl
@[simp] theorem aluAdd_snd_target (d v : Byte) (s : State) : ((aluAdd d v s).2).target = s.target := by
  unfold aluAdd; dsimp only; split <;> split <;> rfl
@[simp] theorem aluAdd_snd_halted (d v : Byte) (s : State) : ((aluAdd d v s).2).halted = s.halted := by
  unfold aluAdd; dsimp only; split <;> split <;> rfl
@[simp] theorem aluAdd_snd_fault (d v : Byte) (s : State) : ((aluAdd d v s).2).fault = s.fault := by
  unfold aluAdd; dsimp only; split <;> split <;> rfl
@[simp] theorem aluAdd_snd_everyOther (d v : Byte) (s : State) : ((aluAdd d v s).2).everyOther = s.everyOther := by
  unfold aluAdd; dsimp only; split <;> split <;> rfl
@[simp] theorem aluAdd_snd_rateCounter (d v : Byte) (s : State) : ((aluAdd d v s).2).rateCounter = s.rateCounter := by
  unfold aluAdd; dsimp only; split <;> split <;> rfl
@[simp] theorem aluAdd_snd_konLatch (d v : Byte) (s : State) : ((aluAdd d v s).2).konLatch = s.konLatch := by
  unfold aluAdd; dsimp only; split <;> split <;> rfl
@[simp] theorem aluAdd_snd_kofLatch (d v : Byte) (s : State) : ((aluAdd d v s).2).kofLatch = s.kofLatch := by
  unfold aluAdd; dsimp only; split <;> split <;> rfl
@[simp] theorem aluAdd_snd_voices (d v : Byte) (s : State) : ((aluAdd d v s).2).voices = s.voices := by
  unfold aluAdd; dsimp only; split <;> split <;> rfl
@[simp] theorem aluAdd_snd_phase (d v : Byte) (s : State) : ((aluAdd d v s).2).phase = s.phase := by
  unfold aluAdd; dsimp only; split <;> split <;> rfl
@[simp] theorem aluAdd_snd_frame (d v : Byte) (s : State) : ((aluAdd d v s).2).frame = s.frame := by
  unfold aluAdd; dsimp only; split <;> split <;> rfl
@[simp] theorem aluAdd_snd_params (d v : Byte) (s : State) : ((aluAdd d v s).2).params = s.params := by
  unfold aluAdd; dsimp only; split <;> split <;> rfl

/-! ### alu -/

@[simp] theorem alu_snd_a (op : AluOp) (d v : Byte) (s : State) : ((alu op d v s).2).a = s.a := by
  cases op <;> simp [alu]
@[simp] theorem alu_snd_x (op : AluOp) (d v : Byte) (s : State) : ((alu op d v s).2).x = s.x := by
  cases op <;> simp [alu]
@[simp] theorem alu_snd_y (op : AluOp) (d v : Byte) (s : State) : ((alu op d v s).2).y = s.y := by
  cases op <;> simp [alu]
@[simp] theorem alu_snd_sp (op : AluOp) (d v : Byte) (s : State) : ((alu op d v s).2).sp = s.sp := by
  cases op <;> simp [alu]
@[simp] theorem alu_snd_pc (op : AluOp) (d v : Byte) (s : State) : ((alu op d v s).2).pc = s.pc := by
  cases op <;> simp [alu]
@[simp] theorem alu_snd_ram (op : AluOp) (d v : Byte) (s : State) : ((alu op d v s).2).ram = s.ram := by
  cases op <;> simp [alu]
@[simp] theorem alu_snd_dspRegs (op : AluOp) (d v : Byte) (s : State) : ((alu op d v s).2).dspRegs = s.dspRegs := by
  cases op <;> simp [alu]
@[simp] theorem alu_snd_timers (op : AluOp) (d v : Byte) (s : State) : ((alu op d v s).2).timers = s.timers := by
  cases op <;> simp [alu]
@[simp] theorem alu_snd_time (op : AluOp) (d v : Byte) (s : State) : ((alu op d v s).2).time = s.time := by
  cases op <;> simp [alu]
@[simp] theorem alu_snd_target (op : AluOp) (d v : Byte) (s : State) : ((alu op d v s).2).target = s.target := by
  cases op <;> simp [alu]
@[simp] theorem alu_snd_halted (op : AluOp) (d v : Byte) (s : State) : ((alu op d v s).2).halted = s.halted := by
  cases op <;> simp [alu]
@[simp] theorem alu_snd_fault (op : AluOp) (d v : Byte) (s : State) : ((alu op d v s).2).fault = s.fault := by
  cases op <;> simp [alu]
@[simp] theorem alu_snd_everyOther (op : AluOp) (d v : Byte) (s : State) : ((alu op d v s).2).everyOther = s.everyOther := by
  cases op <;> simp [alu]
@[simp] theorem alu_snd_rateCounter (op : AluOp) (d v : Byte) (s : State) : ((alu op d v s).2).rateCounter = s.rateCounter := by
  cases op <;> simp [alu]
@[simp] theorem alu_snd_konLatch (op : AluOp) (d v : Byte) (s : State) : ((alu op d v s).2).konLatch = s.konLatch := by
  cases op <;> simp [alu]
@[simp] theorem alu_snd_kofLatch (op : AluOp) (d v : Byte) (s : State) : ((alu op d v s).2).kofLatch = s.kofLatch := by
  cases op <;> simp [alu]
@[simp] theorem alu_snd_voices (op : AluOp) (d v : Byte) (s : State) : ((alu op d v s).2).voices = s.voices := by
  cases op <;> simp [alu]
@[simp] theorem alu_snd_phase (op : AluOp) (d v : Byte) (s : State) : ((alu op d v s).2).phase = s.phase := by
  cases op <;> simp [alu]
@[simp] theorem alu_snd_frame (op : AluOp) (d v : Byte) (s : State) : ((alu op d v s).2).frame = s.frame := by
  cases op <;> simp [alu]
@[simp] theorem alu_snd_params (op : AluOp) (d v : Byte) (s : State) : ((alu op d v s).2).params = s.params := by
  cases op <;> simp [alu]

/-! ### aluCmp -/

@[simp] theorem aluCmp_a (d v : Byte) (s : State) : (aluCmp d v s).a = s.a := rfl
@[simp] theorem aluCmp_x (d v : Byte) (s : State) : (aluCmp d v s).x = s.x := rfl
@[simp] theorem aluCmp_y (d v : Byte) (s : State) : (aluCmp d v s).y = s.y := rfl
@[simp] theorem aluCmp_sp (d v : Byte) (s : State) : (aluCmp d v s).sp = s.sp := rfl
@[simp] theorem aluCmp_pc (d v : Byte) (s : State) : (aluCmp d v s).pc = s.pc := rfl
@[simp] theorem aluCmp_ram (d v : Byte) (s : State) : (aluCmp d v s).ram = s.ram := rfl
@[simp] theorem aluCmp_dspRegs (d v : Byte) (s : State) : (aluCmp d v s).dspRegs = s.dspRegs := rfl
@[simp] theorem aluCmp_timers (d v : Byte) (s : State) : (aluCmp d v s).timers = s.timers := rfl
@[simp] theorem aluCmp_time (d v : Byte) (s : State) : (aluCmp d v s).time = s.time := rfl
@[simp] theorem aluCmp_target (d v : Byte) (s : State) : (aluCmp d v s).target = s.target := rfl
@[simp] theorem aluCmp_halted (d v : Byte) (s : State) : (aluCmp d v s).halted = s.halted := rfl
@[simp] theorem aluCmp_fault (d v : Byte) (s : State) : (aluCmp d v s).fault = s.fault := rfl
@[simp] theorem aluCmp_everyOther (d v : Byte) (s : State) : (aluCmp d v s).everyOther = s.everyOther := rfl
@[simp] theorem aluCmp_rateCounter (d v : Byte) (s : State) : (aluCmp d v s).rateCounter = s.rateCounter := rfl
@[simp] theorem aluCmp_konLatch (d v : Byte) (s : State) : (aluCmp d v s).konLatch = s.konLatch := rfl
@[simp] theorem aluCmp_kofLatch (d v : Byte) (s : State) : (aluCmp d v s).kofLatch = s.kofLatch := rfl
@[simp] theorem aluCmp_voices (d v : Byte) (s : State) : (aluCmp d v s).voices = s.voices := rfl
@[simp] theorem aluCmp_phase (d v : Byte) (s : State) : (aluCmp d v s).phase = s.phase := rfl
@[simp] theorem aluCmp_frame (d v : Byte) (s : State) : (aluCmp d v s).frame = s.frame := rfl
@[simp] theorem aluCmp_params (d v : Byte) (s : State) : (aluCmp d v s).params = s.params := rfl

/-! ### rmwFn -/

@[simp] theorem rmwFn_snd_a (op : RmwOp) (v : Byte) (s : State) : ((rmwFn op v s).2).a = s.a := by cases op <;> rfl
@[simp] theorem rmwFn_snd_x (op : RmwOp) (v : Byte) (s : State) : ((rmwFn op v s).2).x = s.x := by cases op <;> rfl
@[simp] theorem rmwFn_snd_y (op : RmwOp) (v : Byte) (s : State) : ((rmwFn op v s).2).y = s.y := by cases op <;> rfl
@[simp] theorem rmwFn_snd_sp (op : RmwOp) (v : Byte) (s : State) : ((rmwFn op v s).2).sp = s.sp := by cases op <;> rfl
@[simp] theorem rmwFn_snd_pc (op : RmwOp) (v : Byte) (s : State) : ((rmwFn op v s).2).pc = s.pc := by cases op <;> rfl
@[simp] theorem rmwFn_snd_ram (op : RmwOp) (v : Byte) (s : State) : ((rmwFn op v s).2).ram = s.ram := by cases op <;> rfl
@[simp] theorem rmwFn_snd_dspRegs (op : RmwOp) (v : Byte) (s : State) : ((rmwFn op v s).2).dspRegs = s.dspRegs := by cases op <;> rfl
@[simp] theorem rmwFn_snd_timers (op : RmwOp) (v : Byte) (s : State) : ((rmwFn op v s).2).timers = s.timers := by cases op <;> rfl
@[simp] theorem rmwFn_snd_time (op : RmwOp) (v : Byte) (s : State) : ((rmwFn op v s).2).time = s.time := by cases op <;> rfl
@[simp] theorem rmwFn_snd_target (op : RmwOp) (v : Byte) (s : State) : ((rmwFn op v s).2).target = s.target := by cases op <;> rfl
@[simp] theorem rmwFn_snd_halted (op : RmwOp) (v : Byte) (s : State) : ((rmwFn op v s).2).halted = s.halted := by cases op <;> rfl
@[simp] theorem rmwFn_snd_fault (op : RmwOp) (v : Byte) (s : State) : ((rmwFn op v s).2).fault = s.fault := by cases op <;> rfl
@[simp] theorem rmwFn_snd_everyOther (op : RmwOp) (v : Byte) (s : State) : ((rmwFn op v s).2).everyOther = s.everyOther := by cases op <;> rfl
@[simp] theorem rmwFn_snd_rateCounter (op : RmwOp) (v : Byte) (s : State) : ((rmwFn op v s).2).rateCounter = s.rateCounter := by cases op <;> rfl
@[simp] theorem rmwFn_snd_konLatch (op : RmwOp) (v : Byte) (s : State) : ((rmwFn op v s).2).konLatch = s.konLatch := by cases op <;> rfl
@[simp] theorem rmwFn_snd_kofLatch (op : RmwOp) (v : Byte) (s : State) : ((rmwFn op v s).2).kofLatch = s.kofLatch := by cases op <;> rfl
@[simp] theorem rmwFn_snd_voices (op : RmwOp) (v : Byte) (s : State) : ((rmwFn op v s).2).voices = s.voices := by cases op <;> rfl
@[simp] theorem rmwFn_snd_phase (op : RmwOp) (v : Byte) (s : State) : ((rmwFn op v s).2).phase = s.phase := by cases op <;> rfl
@[simp] theorem rmwFn_snd_frame (op : RmwOp) (v : Byte) (s : State) : ((rmwFn op v s).2).frame = s.frame := by cases op <;> rfl
@[simp] theorem rmwFn_snd_params (op : RmwOp) (v : Byte) (s : State) : ((rmwFn op v s).2).params = s.params := by cases op <;> rfl

/-! ### wordAdd -/

@[simp] theorem wordAdd_snd_a (d v : Word) (c : Nat) (s : State) : ((wordAdd d v c s).2).a = s.a := by
  unfold wordAdd; dsimp only; split <;> split <;> rfl
@[simp] theorem wordAdd_snd_x (d v : Word) (c : Nat) (s : State) : ((wordAdd d v c s).2).x = s.x := by
  unfold wordAdd; dsimp only; split <;> split <;> rfl
@[simp] theorem wordAdd_snd_y (d v : Word) (c : Nat) (s : State) : ((wordAdd d v c s).2).y = s.y := by
  unfold wordAdd; dsimp only; split <;> split <;> rfl
@[simp] theorem wordAdd_snd_sp (d v : Word) (c : Nat) (s : State) : ((wordAdd d v c s).2).sp = s.sp := by
  unfold wordAdd; dsimp only; split <;> split <;> rfl
@[simp] theorem wordAdd_snd_pc (d v : Word) (c : Nat) (s : State) : ((wordAdd d v c s).2).pc = s.pc := by
  unfold wordAdd; dsimp only; split <;> split <;> rfl
@[simp] theorem wordAdd_snd_ram (d v : Word) (c : Nat) (s : State) : ((wordAdd d v c s).2).ram = s.ram := by
  unfold wordAdd; dsimp only; split <;> split <;> rfl
@[simp] theorem wordAdd_snd_dspRegs (d v : Word) (c : Nat) (s : State) : ((wordAdd d v c s).2).dspRegs = s.dspRegs := by
  unfold wordAdd; dsimp only; split <;> split <;> rfl
@[simp] theorem wordAdd_snd_timers (d v : Word) (c : Nat) (s : State) : ((wordAdd d v c s).2).timers = s.timers := by
  unfold wordAdd; dsimp only; split <;> split <;> rfl
@[simp] theorem wordAdd_snd_time (d v : Word) (c : Nat) (s : State) : ((wordAdd d v c s).2).time = s.time := by
  unfold wordAdd; dsimp only; split <;> split <;> rfl
@[simp] theorem wordAdd_snd_target (d v : Word) (c : Nat) (s : State) : ((wordAdd d v c s).2).target = s.target := by
  unfold wordAdd; dsimp only; split <;> split <;> rfl
@[simp] theorem wordAdd_snd_halted (d v : Word) (c : Nat) (s : State) : ((wordAdd d v c s).2).halted = s.halted := by
  unfold wordAdd; dsimp only; split <;> split <;> rfl
@[simp] theorem wordAdd_snd_fault (d v : Word) (c : Nat) (s : State) : ((wordAdd d v c s).2).fault = s.fault := by
  unfold wordAdd; dsimp only; split <;> split <;> rfl
@[simp] theorem wordAdd_snd_everyOther (d v : Word) (c : Nat) (s : State) : ((wordAdd d v c s).2).everyOther = s.everyOther := by
  unfold wordAdd; dsimp only; split <;> split <;> rfl
@[simp] theorem wordAdd_snd_rateCounter (d v : Word) (c : Nat) (s : State) : ((wordAdd d v c s).2).rateCounter = s.rateCounter := by
  unfold wordAdd; dsimp only; split <;> split <;> rfl
@[simp] theorem wordAdd_snd_konLatch (d v : Word) (c : Nat) (s : State) : ((wordAdd d v c s).2).konLatch = s.konLatch := by
  unfold wordAdd; dsimp only; split <;> split <;> rfl
@[simp] theorem wordAdd_snd_kofLatch (d v : Word) (c : Nat) (s : State) : ((wordAdd d v c s).2).kofLatch = s.kofLatch := by
  unfold wordAdd; dsimp only; split <;> split <;> rfl
@[simp] theorem wordAdd_snd_voices (d v : Word) (c : Nat) (s : State) : ((wordAdd d v c s).2).voices = s.voices := by
  unfold wordAdd; dsimp only; split <;> split <;> rfl
@[simp] theorem wordAdd_snd_phase (d v : Word) (c : Nat) (s : State) : ((wordAdd d v c s).2).phase = s.phase := by
  unfold wordAdd; dsimp only; split <;> split <;> rfl
@[simp] theorem wordAdd_snd_frame (d v : Word) (c : Nat) (s : State) : ((wordAdd d v c s).2).frame = s.frame := by
  unfold wordAdd; dsimp only; split <;> split <;> rfl
@[simp] theorem wordAdd_snd_params (d v : Word) (c : Nat) (s : State) : ((wordAdd d v c s).2).params = s.params := by
  unfold wordAdd; dsimp only; split <;> split <;> rfl

/-! ### wordCmp -/

@[simp] theorem wordCmp_a (d v : Word) (s : State) : (wordCmp d v s).a = s.a := rfl
@[simp] theorem wordCmp_x (d v : Word) (s : State) : (wordCmp d v s).x = s.x := rfl
@[simp] theorem wordCmp_y (d v : Word) (s : State) : (wordCmp d v s).y = s.y := rfl
@[simp] theorem wordCmp_sp (d v : Word) (s : State) : (wordCmp d v s).sp = s.sp := rfl
@[simp] theorem wordCmp_pc (d v : Word) (s : State) : (wordCmp d v s).pc = s.pc := rfl
@[simp] theorem wordCmp_ram (d v : Word) (s : State) : (wordCmp d v s).ram = s.ram := rfl
@[simp] theorem wordCmp_dspRegs (d v : Word) (s : State) : (wordCmp d v s).dspRegs = s.dspRegs := rfl
@[simp] theorem wordCmp_timers (d v : Word) (s : State) : (wordCmp d v s).timers = s.timers := rfl
@[simp] theorem wordCmp_time (d v : Word) (s : State) : (wordCmp d v s).time = s.time := rfl
@[simp] theorem wordCmp_target (d v : Word) (s : State) : (wordCmp d v s).target = s.target := rfl
@[simp] theorem wordCmp_halted (d v : Word) (s : State) : (wordCmp d v s).halted = s.halted := rfl
@[simp] theorem wordCmp_fault (d v : Word) (s : State) : (wordCmp d v s).fault = s.fault := rfl
@[simp] theorem wordCmp_everyOther (d v : Word) (s : State) : (wordCmp d v s).everyOther = s.everyOther := rfl
@[simp] theorem wordCmp_rateCounter (d v : Word) (s : State) : (wordCmp d v s).rateCounter = s.rateCounter := rfl
@[simp] theorem wordCmp_konLatch (d v : Word) (s : State) : (wordCmp d v s).konLatch = s.konLatch := rfl
@[simp] theorem wordCmp_kofLatch (d v : Word) (s : State) : (wordCmp d v s).kofLatch = s.kofLatch := rfl
@[simp] theorem wordCmp_voices (d v : Word) (s : State) : (wordCmp d v s).voices = s.voices := rfl
@[simp] theorem wordCmp_phase (d v : Word) (s : State) : (wordCmp d v s).phase = s.phase := rfl
@[simp] theorem wordCmp_frame (d v : Word) (s : State) : (wordCmp d v s).frame = s.frame := rfl
@[simp] theorem wordCmp_params (d v : Word) (s : State) : (wordCmp d v s).params = s.params := rfl

/-! ### decimalAdd -/

@[simp] theorem decimalAdd_x (s : State) : (decimalAdd s).x = s.x := by
  unfold decimalAdd; dsimp only; split <;> split <;> rfl
@[simp] theorem decimalAdd_y (s : State) : (decimalAdd s).y = s.y := by
  unfold decimalAdd; dsimp only; split <;> split <;> rfl
@[simp] theorem decimalAdd_sp (s : State) : (decimalAdd s).sp = s.sp := by
  unfold decimalAdd; dsimp only; split <;> split <;> rfl
@[simp] theorem decimalAdd_pc (s : State) : (decimalAdd s).pc = s.pc := by
  unfold decimalAdd; dsimp only; split <;> split <;> rfl
@[simp] theorem decimalAdd_ram (s : State) : (decimalAdd s).ram = s.ram := by
  unfold decimalAdd; dsimp only; split <;> split <;> rfl
@[simp] theorem decimalAdd_dspRegs (s : State) : (decimalAdd s).dspRegs = s.dspRegs := by
  unfold decimalAdd; dsimp only; split <;> split <;> rfl
@[simp] theorem decimalAdd_timers (s : State) : (decimalAdd s).timers = s.timers := by
  unfold decimalAdd; dsimp only; split <;> split <;> rfl
@[simp] theorem decimalAdd_time (s : State) : (decimalAdd s).time = s.time := by
  unfold decimalAdd; dsimp only; split <;> split <;> rfl
@[simp] theorem decimalAdd_target (s : State) : (decimalAdd s).target = s.target := by
  unfold decimalAdd; dsimp only; split <;> split <;> rfl
@[simp] theorem decimalAdd_halted (s : State) : (decimalAdd s).halted = s.halted := by
  unfold decimalAdd; dsimp only; split <;> split <;> rfl
@[simp] theorem decimalAdd_fault (s : State) : (decimalAdd s).fault = s.fault := by
  unfold decimalAdd; dsimp only; split <;> split <;> rfl
@[simp] theorem decimalAdd_everyOther (s : State) : (decimalAdd s).everyOther = s.everyOther := by
  unfold decimalAdd; dsimp only; split <;> split <;> rfl
@[simp] theorem decimalAdd_rateCounter (s : State) : (decimalAdd s).rateCounter = s.rateCounter := by
  unfold decimalAdd; dsimp only; split <;> split <;> rfl
@[simp] theorem decimalAdd_konLatch (s : State) : (decimalAdd s).konLatch = s.konLatch := by
  unfold decimalAdd; dsimp only; split <;> split <;> rfl
@[simp] theorem decimalAdd_kofLatch (s : State) : (decimalAdd s).kofLatch = s.kofLatch := by
  unfold decimalAdd; dsimp only; split <;> split <;> rfl
@[simp] theorem decimalAdd_voices (s : State) : (decimalAdd s).voices = s.voices := by
  unfold decimalAdd; dsimp only; split <;> split <;> rfl
@[simp] theorem decimalAdd_phase (s : State) : (decimalAdd s).phase = s.phase := by
  unfold decimalAdd; dsimp only; split <;> split <;> rfl
@[simp] theorem decimalAdd_frame (s : State) : (decimalAdd s).frame = s.frame := by
  unfold decimalAdd; dsimp only; split <;> split <;> rfl
@[simp] theorem decimalAdd_params (s : State) : (decimalAdd s).params = s.params := by
  unfold decimalAdd; dsimp only; split <;> split <;> rfl

/-! ### decimalSub -/

@[simp] theorem decimalSub_x (s : State) : (decimalSub s).x = s.x := by
  unfold decimalSub; dsimp only; split <;> split <;> rfl
@[simp] theorem decimalSub_y (s : State) : (decimalSub s).y = s.y := by
  unfold decimalSub; dsimp only; split <;> split <;> rfl
@[simp] theorem decimalSub_sp (s : State) : (decimalSub s).sp = s.sp := by
  unfold decimalSub; dsimp only; split <;> split <;> rfl
@[simp] theorem decimalSub_pc (s : State) : (decimalSub s).pc = s.pc := by
  unfold decimalSub; dsimp only; split <;> split <;> rfl
@[simp] theorem decimalSub_ram (s : State) : (decimalSub s).ram = s.ram := by
  unfold decimalSub; dsimp only; split <;> split <;> rfl
@[simp] theorem decimalSub_dspRegs (s : State) : (decimalSub s).dspRegs = s.dspRegs := by
  unfold decimalSub; dsimp only; split <;> split <;> rfl
@[simp] theorem decimalSub_timers (s : State) : (decimalSub s).timers = s.timers := by
  unfold decimalSub; dsimp only; split <;> split <;> rfl
@[simp] theorem decimalSub_time (s : State) : (decimalSub s).time = s.time := by
  unfold decimalSub; dsimp only; split <;> split <;> rfl
@[simp] theorem decimalSub_target (s : State) : (decimalSub s).target = s.target := by
  unfold decimalSub; dsimp only; split <;> split <;> rfl
@[simp] theorem decimalSub_halted (s : State) : (decimalSub s).halted = s.halted := by
  unfold decimalSub; dsimp only; split <;> split <;> rfl
@[simp] theorem decimalSub_fault (s : State) : (decimalSub s).fault = s.fault := by
  unfold decimalSub; dsimp only; split <;> split <;> rfl
@[simp] theorem decimalSub_everyOther (s : State) : (decimalSub s).everyOther = s.everyOther := by
  unfold decimalSub; dsimp only; split <;> split <;> rfl
@[simp] theorem decimalSub_rateCounter (s : State) : (decimalSub s).rateCounter = s.rateCounter := by
  unfold decimalSub; dsimp only; split <;> split <;> rfl
@[simp] theorem decimalSub_konLatch (s : State) : (decimalSub s).konLatch = s.konLatch := by
  unfold decimalSub; dsimp only; split <;> split <;> rfl
@[simp] theorem decimalSub_kofLatch (s : State) : (decimalSub s).kofLatch = s.kofLatch := by
  unfold decimalSub; dsimp only; split <;> split <;> rfl
@[simp] theorem decimalSub_voices (s : State) : (decimalSub s).voices = s.voices := by
  unfold decimalSub; dsimp only; split <;> split <;> rfl
@[simp] theorem decimalSub_phase (s : State) : (decimalSub s).phase = s.phase := by
  unfold decimalSub; dsimp only; split <;> split <;> rfl
@[simp] theorem decimalSub_frame (s : State) : (decimalSub s).frame = s.frame := by
  unfold decimalSub; dsimp only; split <;> split <;> rfl
@[simp] theorem decimalSub_params (s : State) : (decimalSub s).params = s.params := by
  unfold decimalSub; dsimp only; split <;> split <;> rfl

/-! ### branch -/

@[simp] theorem branch_a (c : Bool) (r : Byte) (s : State) : (branch c r s).a = s.a := by cases c <;> rfl
@[simp] theorem branch_x (c : Bool) (r : Byte) (s : State) : (branch c r s).x = s.x := by cases c <;> rfl
@[simp] theorem branch_y (c : Bool) (r : Byte) (s : State) : (branch c r s).y = s.y := by cases c <;> rfl
@[simp] theorem branch_sp (c : Bool) (r : Byte) (s : State) : (branch c r s).sp = s.sp := by cases c <;> rfl
@[simp] theorem branch_flags (c : Bool) (r : Byte) (s : State) : (branch c r s).flags = s.flags := by cases c <;> rfl
@[simp] theorem branch_ram (c : Bool) (r : Byte) (s : State) : (branch c r s).ram = s.ram := by cases c <;> rfl
@[simp] theorem branch_dspRegs (c : Bool) (r : Byte) (s : State) : (branch c r s).dspRegs = s.dspRegs := by cases c <;> rfl
@[simp] theorem branch_timers (c : Bool) (r : Byte) (s : State) : (branch c r s).timers = s.timers := by cases c <;> rfl
@[simp] theorem branch_target (c : Bool) (r : Byte) (s : State) : (branch c r s).target = s.target := by cases c <;> rfl
@[simp] theorem branch_halted (c : Bool) (r : Byte) (s : State) : (branch c r s).halted = s.halted := by cases c <;> rfl
@[simp] theorem branch_fault (c : Bool) (r : Byte) (s : State) : (branch c r s).fault = s.fault := by cases c <;> rfl
@[simp] theorem branch_everyOther (c : Bool) (r : Byte) (s : State) : (branch c r s).everyOther = s.everyOther := by cases c <;> rfl
@[simp] theorem branch_rateCounter (c : Bool) (r : Byte) (s : State) : (branch c r s).rateCounter = s.rateCounter := by cases c <;> rfl
@[simp] theorem branch_konLatch (c : Bool) (r : Byte) (s : State) : (branch c r s).konLatch = s.konLatch := by cases c <;> rfl
@[simp] theorem branch_kofLatch (c : Bool) (r : Byte) (s : State) : (branch c r s).kofLatch = s.kofLatch := by cases c <;> rfl
@[simp] theorem branch_voices (c : Bool) (r : Byte) (s : State) : (branch c r s).voices = s.voices := by cases c <;> rfl
@[simp] theorem branch_phase (c : Bool) (r : Byte) (s : State) : (branch c r s).phase = s.phase := by cases c <;> rfl
@[simp] theorem branch_frame (c : Bool) (r : Byte) (s : State) : (branch c r s).frame = s.frame := by cases c <;> rfl
@[simp] theorem branch_params (c : Bool) (r : Byte) (s : State) : (branch c r s).params = s.params := by cases c <;> rfl


end Sys2Proof.Machine
end

