-- ==== Sys2Proof/Laws/Frames.lean ====
section
/-! SUPPORT. Laws/Frames.lean: what the shared operations do to memory, in the terms of Safety.lean: which reads are
`ReadOnly`, what a write stores, and that the canonical form of RAM is kept. -/

namespace Sys2Proof.Machine

/-! ### Reads -/

theorem counterOf_isSome (a : Word) : (counterOf a).isSome = decide (0x00FD ≤ a ∧ a ≤ 0x00FF) := by
  unfold counterOf
  split
  · subst_vars; decide
  · split
    · subst_vars; decide
    · split
      · subst_vars; decide
      · simp only [Option.isSome_none]
        symm
        rw [decide_eq_false_iff_not]
        bv_omega

theorem memRead_plain (a : Word) (s : State) (h : refreshed a = false) : memRead a s = (s.peek a, s) := by
  simp only [refreshed, Bool.or_eq_false_iff, ← counterOf_isSome, Option.isSome_eq_false_iff, Option.isNone_iff_eq_none,
    beq_eq_false_iff_ne] at h
  unfold memRead
  rw [h.2]
  exact if_neg h.1

/-- A read rewrites its own byte at most. -/
theorem memRead_other (a b : Word) (s : State) (h : b ≠ a) : (memRead a s).2.peek b = s.peek b := by
  unfold memRead
  split
  · dsimp only
    rw [State.peek_poke, if_neg h]; rfl
  · dsimp only
    split
    · rw [State.peek_poke, if_neg h]
    · rfl

/-- The byte read is the byte in RAM after the read. -/
theorem memRead_value (a : Word) (s : State) : (memRead a s).1 = (memRead a s).2.peek a := by
  unfold memRead
  split
  · dsimp only
    rw [State.peek_poke, if_pos rfl]
  · dsimp only
    split
    · rw [State.peek_poke, if_pos rfl]
    · rfl

theorem Timer.sync_enabled (rate t : Nat) (tm : Timer) : (tm.sync rate t).enabled = tm.enabled := rfl
theorem Timer.sync_divisor (rate t : Nat) (tm : Timer) : (tm.sync rate t).divisor = tm.divisor := rfl

theorem ReadOnly.refl (s : State) : ReadOnly s s := ⟨fun _ _ => rfl, rfl, fun _ => ⟨rfl, rfl⟩⟩

theorem ReadOnly.trans {s t u : State} (h : ReadOnly s t) (k : ReadOnly t u) : ReadOnly s u :=
  ⟨fun b hb => (k.bytes b hb).trans (h.bytes b hb), k.bank.trans h.bank,
    fun i => ⟨(k.timers i).1.trans (h.timers i).1, (k.timers i).2.trans (h.timers i).2⟩⟩

theorem ReadOnly.of_same {s t u : State} (h : ReadOnly s t) (k : SameDevices t u) : ReadOnly s u :=
  ⟨fun b hb => (k.bytes b).trans (h.bytes b hb), k.bank.trans h.bank,
    fun i => by rw [k.timers]; exact h.timers i⟩

theorem SameDevices.of_eq {s t : State} (h1 : t.ram = s.ram) (h2 : t.dspRegs = s.dspRegs) (h3 : t.timers = s.timers) :
    SameDevices s t := ⟨fun b => by rw [State.peek, h1, State.peek], h2, h3⟩

theorem memRead_readOnly (a : Word) (s : State) : ReadOnly s (memRead a s).2 := by
  refine ⟨fun b hb => ?_, by simp, fun i => ?_⟩
  · by_cases h : b = a
    · subst h; rw [memRead_plain b s hb]
    · exact memRead_other a b s h
  · unfold memRead
    split
    · rename_i j _
      simp only [State.readCounter, State.onTimer, State.poke]
      fin_cases i <;> fin_cases j <;> simp [Timer.readCounter, Timer.sync]
    · dsimp only
      split <;> exact ⟨rfl, rfl⟩

theorem readWordDp_readOnly (o : Byte) (s : State) : ReadOnly s (readWordDp o s).2 :=
  (memRead_readOnly _ s).trans (memRead_readOnly _ _)

theorem readWord_readOnly (p : Word) (s : State) : ReadOnly s (readWord p s).2 :=
  (memRead_readOnly _ s).trans (memRead_readOnly _ _)

theorem Mode.ea_readOnly (m : Mode) (s : State) : ReadOnly s (m.ea s).2 := by
  cases m <;> first | exact ReadOnly.refl s | exact readWordDp_readOnly _ s

theorem Source.read_readOnly (src : Source) (s : State) : ReadOnly s (src.read s).2 := by
  cases src with
  | imm v => exact ReadOnly.refl s
  | mem m => exact (Mode.ea_readOnly m s).trans (memRead_readOnly _ _)

/-! ### Writes -/

/-- R102: a write stores its byte and no other. -/
theorem memWrite_peek (a : Word) (v : Byte) (s : State) (b : Word) :
    (memWrite a v s).peek b = if b = a then v else s.peek b := by
  rw [← State.peek_poke, memWrite, State.peek, writeEffect_ram, State.peek]

/-- A write depends on RAM, the timers, the bank and the time only. -/
theorem memWrite_congr (a : Word) (v : Byte) {s t : State} (h1 : t.ram = s.ram) (h2 : t.timers = s.timers)
    (h3 : t.dspRegs = s.dspRegs) (h4 : t.time = s.time) :
    (memWrite a v t).ram = (memWrite a v s).ram ∧ (memWrite a v t).dspRegs = (memWrite a v s).dspRegs ∧
      (memWrite a v t).timers = (memWrite a v s).timers := by
  have hp (b : Word) : (t.poke a v).peek b = (s.poke a v).peek b := by
    rw [State.peek_poke, State.peek_poke, State.peek, State.peek, h1]
  have hr : (memWrite a v t).ram = (memWrite a v s).ram := by simp [memWrite, h1]
  refine ⟨hr, ?_⟩
  unfold memWrite writeEffect
  split
  · constructor <;> simp [State.onTimer, h2, h3, h4]
  · split
    · constructor <;> simp [State.onTimer, h2, h3, h4]
    · rw [hp]
      split <;> constructor <;> simp [State.setDspReg, h2, h3]

/-- The store a write makes, seen from any machine with the same devices and time. -/
theorem memWrite_stored (a : Word) (v : Byte) {s t : State} (h1 : t.ram = s.ram) (h2 : t.timers = s.timers)
    (h3 : t.dspRegs = s.dspRegs) (h4 : t.time = s.time) : Stored a v s (memWrite a v t) := by
  have h := memWrite_congr a v h1 h2 h3 h4
  refine ⟨fun b => ?_, h.2.1, h.2.2⟩
  rw [State.peek, h.1, ← State.peek, memWrite_peek]

theorem Stored.of_same {a : Word} {v : Byte} {s t u : State} (h : Stored a v s t) (k : SameDevices t u) :
    Stored a v s u := ⟨fun b => (k.bytes b).trans (h.bytes b), k.bank.trans h.bank, k.timers.trans h.timers⟩

/-- A write outside the window has no effect beside its byte. -/
theorem writeEffect_plain (a : Word) (v : Byte) (s : State) (h : 0x0100 ≤ a) : writeEffect a v s = s := by
  have h1 : a ≠ controlAddr := by unfold controlAddr; bv_omega
  have h2 : divisorOf a = none := by
    unfold divisorOf
    rw [if_neg (by bv_omega), if_neg (by bv_omega), if_neg (by bv_omega)]
  have h3 : a ≠ dspDataPort := by unfold dspDataPort; bv_omega
  unfold writeEffect
  rw [if_neg h1, h2]
  exact if_neg fun h => h3 h.1

theorem memWrite_plain (a : Word) (v : Byte) (s : State) (h : 0x0100 ≤ a) : memWrite a v s = s.poke a v :=
  writeEffect_plain a v _ h

theorem refreshed_high (a : Word) (h : 0x0100 ≤ a) : refreshed a = false := by
  simp only [refreshed, Bool.or_eq_false_iff, beq_eq_false_iff_ne, decide_eq_false_iff_not]
  bv_omega

/-! ### The stack -/

theorem page_one (v : Byte) : 0x0100 ≤ Word.mk 1 v := by
  rw [BitVec.le_def]
  show 256 ≤ (1#8 ++ v).toNat
  rw [BitVec.toNat_append, Nat.shiftLeft_eq]
  exact Nat.le_trans (by decide) Nat.left_le_or

/-- R106: a push is a plain store in page 1. -/
theorem push_eq (v : Byte) (s : State) : push v s = { s.poke (Word.mk 1 s.sp) v with sp := s.sp - 1 } := by
  unfold push stackAddr
  dsimp only
  rw [memWrite_plain _ _ _ (page_one _)]
  rfl

/-- R107: a pop reads page 1, without any effect but on SP. -/
theorem pop_eq (s : State) : pop s = (s.peek (Word.mk 1 (s.sp + 1)), { s with sp := s.sp + 1 }) := by
  unfold pop stackAddr
  dsimp only
  rw [memRead_plain _ _ (refreshed_high _ (page_one _))]
  rfl

theorem popPc_eq (s : State) :
    popPc s =
      { s with pc := Word.mk (s.peek (Word.mk 1 (s.sp + 1 + 1))) (s.peek (Word.mk 1 (s.sp + 1))), sp := s.sp + 1 + 1 } := by
  unfold popPc
  simp only [pop_eq]
  rfl

/-- R105: a word read outside the window has no effect. -/
theorem readWord_plain (p : Word) (s : State) (h : refreshed p = false) (h1 : refreshed (p + 1) = false) :
    readWord p s = (Word.mk (s.peek (p + 1)) (s.peek p), s) := by
  unfold readWord
  simp only [memRead_plain _ _ h, memRead_plain _ _ h1]

theorem jumpThrough_plain (p : Word) (s : State) (h : refreshed p = false) (h1 : refreshed (p + 1) = false) :
    jumpThrough p s = { s with pc := Word.mk (s.peek (p + 1)) (s.peek p) } := by
  unfold jumpThrough
  rw [readWord_plain p s h h1]

/-- The bytes of a machine after one push. -/
theorem push_peek (v : Byte) (s : State) (b : Word) :
    (push v s).peek b = if b = Word.mk 1 s.sp then v else s.peek b := by
  rw [push_eq]; exact State.peek_poke s _ v b

theorem push_dspRegs (v : Byte) (s : State) : (push v s).dspRegs = s.dspRegs := by rw [push_eq]; rfl
theorem push_timers (v : Byte) (s : State) : (push v s).timers = s.timers := by rw [push_eq]; rfl

/-! ### The canonical form of RAM -/

theorem memRead_wf (a : Word) (s : State) (h : Memory.wf s.ram) : Memory.wf (memRead a s).2.ram := by
  unfold memRead
  split
  · exact State.wf_poke _ _ _ h
  · dsimp only
    split
    · exact State.wf_poke _ _ _ h
    · exact h

theorem memWrite_wf (a : Word) (v : Byte) (s : State) (h : Memory.wf s.ram) : Memory.wf (memWrite a v s).ram := by
  rw [memWrite, writeEffect_ram]; exact State.wf_poke _ _ _ h

theorem readWordDp_wf (o : Byte) (s : State) (h : Memory.wf s.ram) : Memory.wf (readWordDp o s).2.ram :=
  memRead_wf _ _ (memRead_wf _ _ h)

theorem readWord_wf (p : Word) (s : State) (h : Memory.wf s.ram) : Memory.wf (readWord p s).2.ram :=
  memRead_wf _ _ (memRead_wf _ _ h)

theorem Mode.ea_wf (m : Mode) (s : State) (h : Memory.wf s.ram) : Memory.wf (m.ea s).2.ram := by
  cases m <;> first | exact h | exact readWordDp_wf _ _ h

theorem Source.read_wf (src : Source) (s : State) (h : Memory.wf s.ram) : Memory.wf (src.read s).2.ram := by
  cases src with
  | imm v => exact h
  | mem m => exact memRead_wf _ _ (Mode.ea_wf m s h)

theorem push_wf (v : Byte) (s : State) (h : Memory.wf s.ram) : Memory.wf (push v s).ram := memWrite_wf _ _ _ h

theorem pop_wf (s : State) (h : Memory.wf s.ram) : Memory.wf (pop s).2.ram := memRead_wf _ _ h

end Sys2Proof.Machine
end

