-- ==== Sys2Proof/Laws/Shapes.lean ====
section
/-! SUPPORT. Laws/Shapes.lean: one lemma for each shape of instruction of Operands.lean, Flags.lean and Ops.lean that says
everything a body of that shape does. -/

namespace Sys2Proof.Machine

@[simp] theorem State.reg_a (s : State) : s.reg .a = s.a := rfl
@[simp] theorem State.reg_x (s : State) : s.reg .x = s.x := rfl
@[simp] theorem State.reg_y (s : State) : s.reg .y = s.y := rfl

/-- Machines that agree on A, X and Y agree on every register. -/
theorem State.reg_congr {s t : State} (ha : t.a = s.a) (hx : t.x = s.x) (hy : t.y = s.y) (r : Reg8) : t.reg r = s.reg r := by
  cases r
  · exact ha
  · exact hx
  · exact hy

theorem SameRegs.of_eq {s t : State} (ha : t.a = s.a) (hx : t.x = s.x) (hy : t.y = s.y) : SameRegs s t :=
  State.reg_congr ha hx hy

theorem SameMachine.refl (s : State) : SameMachine s s := ⟨rfl, rfl, rfl, rfl, rfl, rfl, rfl, rfl, rfl, rfl⟩

theorem Steady.refl (s : State) : Steady s s := ⟨rfl, rfl, rfl, .refl s⟩

/-- The direct page depends on P alone. -/
theorem dpAddr_congr (o : Byte) {s t : State} (h : t.flags = s.flags) : dpAddr o t = dpAddr o s := by
  rw [dpAddr, h, dpAddr]

/-- An ALU function depends on the flags and the parameters alone. -/
theorem alu_congr (op : AluOp) (d v : Byte) {s t : State} (h : t.flags = s.flags) (hp : t.params = s.params) :
    (alu op d v t).1 = (alu op d v s).1 ∧ (alu op d v t).2.flags = (alu op d v s).2.flags := by
  cases op <;> simp only [alu, aluAdd, setNZ8, setC, setV, setH, State.hib, h, hp] <;> first
    | exact ⟨trivial, trivial⟩
    | (refine ⟨trivial, ?_⟩; split <;> split <;> simp)

theorem aluCmp_congr (d v : Byte) {s t : State} (h : t.flags = s.flags) : (aluCmp d v t).flags = (aluCmp d v s).flags := by
  simp only [aluCmp, setNZ8, setC, h]

theorem rmwFn_congr (op : RmwOp) (v : Byte) {s t : State} (h : t.flags = s.flags) :
    (rmwFn op v t).1 = (rmwFn op v s).1 ∧ (rmwFn op v t).2.flags = (rmwFn op v s).2.flags := by
  cases op <;> simp [rmwFn, h]

/-! ### Loads and stores -/

theorem load_runs (r : Reg8) (src : Source) (s : State) :
    (∀ q, (load r src s).reg q = if q = r then (src.read s).1 else s.reg q) ∧
      (load r src s).flags = { s.flags with n := (src.read s).1.msb, z := decide ((src.read s).1 = 0) } ∧
      (load r src s).sp = s.sp ∧ Steady s (load r src s) ∧ ReadOnly s (load r src s) ∧
      SameDevices (src.read s).2 (load r src s) := by
  have h : SameDevices (src.read s).2 (load r src s) := .of_eq (by simp [load]) (by simp [load]) (by simp [load])
  refine ⟨fun q => ?_, by simp [load], by simp [load], ⟨by simp [load], by simp [load], by simp [load], ?_⟩,
    (Source.read_readOnly _ _).of_same h, h⟩
  · cases q <;> cases r <;> simp [load, State.setReg]
  · constructor <;> simp [load]

theorem store_runs (m : Mode) (r : Reg8) (s : State) :
    Stored (m.ea s).1 (s.reg r) (m.ea s).2 (store m r s) ∧ ReadOnly s (m.ea s).2 ∧ SameRegs s (store m r s) ∧
      (store m r s).flags = s.flags ∧ (store m r s).sp = s.sp ∧ Steady s (store m r s) := by
  have hr : (m.ea s).2.reg r = s.reg r := State.reg_congr (by simp) (by simp) (by simp) r
  refine ⟨?_, Mode.ea_readOnly m s, .of_eq (by simp [store]) (by simp [store]) (by simp [store]), by simp [store],
    by simp [store], ⟨by simp [store], by simp [store], by simp [store], ?_⟩⟩
  · rw [← hr]; exact memWrite_stored _ _ rfl rfl rfl rfl
  · constructor <;> simp [store]

theorem moveTo_runs (r : Reg8) (v : Byte) (s : State) :
    (∀ q, (moveTo r v s).reg q = if q = r then v else s.reg q) ∧
      (moveTo r v s).flags = { s.flags with n := v.msb, z := decide (v = 0) } ∧
      (moveTo r v s).sp = s.sp ∧ Steady s (moveTo r v s) ∧ SameDevices s (moveTo r v s) := by
  refine ⟨fun q => ?_, by simp [moveTo], by simp [moveTo], ⟨by simp [moveTo], by simp [moveTo], by simp [moveTo], ?_⟩,
    .of_eq (by simp [moveTo]) (by simp [moveTo]) (by simp [moveTo])⟩
  · cases q <;> cases r <;> simp [moveTo, State.setReg]
  · constructor <;> simp [moveTo]

/-- A byte stored after reads, by a machine that differs from the one after the reads in registers and flags only. -/
theorem memWrite_leaves (a : Word) (v : Byte) (s : State) :
    SameRegs s (memWrite a v s) ∧ (memWrite a v s).flags = s.flags ∧ (memWrite a v s).sp = s.sp ∧
      Steady s (memWrite a v s) :=
  ⟨.of_eq (by simp) (by simp) (by simp), by simp, by simp, by simp, by simp, by simp, by constructor <;> simp⟩

/-! ### ALU forms -/

theorem aluA_runs (op : AluOp) (src : Source) (s : State) :
    (∀ q, (aluA op src s).reg q = if q = .a then (alu op s.a (src.read s).1 s).1 else s.reg q) ∧
      (aluA op src s).flags = (alu op s.a (src.read s).1 s).2.flags ∧
      (aluA op src s).sp = s.sp ∧ Steady s (aluA op src s) ∧ ReadOnly s (aluA op src s) ∧
      SameDevices (src.read s).2 (aluA op src s) := by
  have hc := alu_congr op s.a (src.read s).1 (s := s) (t := (src.read s).2) (by simp) (by simp)
  have h : SameDevices (src.read s).2 (aluA op src s) := .of_eq (by simp [aluA]) (by simp [aluA]) (by simp [aluA])
  refine ⟨fun q => ?_, ?_, by simp [aluA], ⟨by simp [aluA], by simp [aluA], by simp [aluA], ?_⟩,
    (Source.read_readOnly _ _).of_same h, h⟩
  · cases q <;> simp [aluA, hc.1, State.reg]
  · simp [aluA, hc.2]
  · constructor <;> simp [aluA]

theorem aluMem_runs (op : AluOp) (m : Mode) (src : Source) (s : State) :
    let ea := m.ea (src.read s).2
    let dst := memRead ea.1 ea.2
    Stored ea.1 (alu op dst.1 (src.read s).1 s).1 dst.2 (aluMem op m src s) ∧ ReadOnly s dst.2 ∧
      (aluMem op m src s).flags = (alu op dst.1 (src.read s).1 s).2.flags ∧
      SameRegs s (aluMem op m src s) ∧ (aluMem op m src s).sp = s.sp ∧ Steady s (aluMem op m src s) := by
  intro ea dst
  have hc := alu_congr op dst.1 (src.read s).1 (s := s) (t := dst.2) (by simp [dst, ea]) (by simp [dst, ea])
  refine ⟨?_, ((Source.read_readOnly _ _).trans (Mode.ea_readOnly _ _)).trans (memRead_readOnly _ _), ?_,
    .of_eq (by simp [aluMem]) (by simp [aluMem]) (by simp [aluMem]), by simp [aluMem],
    ⟨by simp [aluMem], by simp [aluMem], by simp [aluMem], ?_⟩⟩
  · have he : aluMem op m src s =
        memWrite ea.1 (alu op dst.1 (src.read s).1 dst.2).1 (alu op dst.1 (src.read s).1 dst.2).2 := rfl
    rw [← hc.1, he]
    exact memWrite_stored _ _ (by simp) (by simp) (by simp) (by simp)
  · rw [← hc.2]; simp [aluMem, dst, ea]
  · constructor <;> simp [aluMem]

/-- R265 as a comparison of unsigned numbers. -/
theorem aluCmp_flags (d v : Byte) (s : State) : Compared d v s.flags (aluCmp d v s).flags := by
  have h1 : decide (d.toNat + (~~~v).toNat + 1 > 0xFF) = decide (v ≤ d) := by
    rw [decide_eq_decide, BitVec.toNat_not, BitVec.le_def]; omega
  have h2 : BitVec.ofNat 8 (d.toNat + (~~~v).toNat + 1) = d - v := by
    apply BitVec.eq_of_toNat_eq
    rw [BitVec.toNat_ofNat, BitVec.toNat_not, BitVec.toNat_sub]; congr 1; omega
  have h3 : decide (d - v = 0) = decide (d = v) := by
    rw [decide_eq_decide]; constructor <;> intro h <;> bv_omega
  simp only [Compared, aluCmp, setNZ8, setC, h1, h2, h3]

theorem cmpReg_runs (r : Reg8) (src : Source) (s : State) :
    Compared (s.reg r) (src.read s).1 s.flags (cmpReg r src s).flags ∧
      SameRegs s (cmpReg r src s) ∧ (cmpReg r src s).sp = s.sp ∧ Steady s (cmpReg r src s) ∧
      ReadOnly s (cmpReg r src s) ∧ SameDevices (src.read s).2 (cmpReg r src s) := by
  have hr : (src.read s).2.reg r = s.reg r := State.reg_congr (by simp) (by simp) (by simp) r
  have h : SameDevices (src.read s).2 (cmpReg r src s) := .of_eq (by simp [cmpReg]) (by simp [cmpReg]) (by simp [cmpReg])
  refine ⟨?_, .of_eq (by simp [cmpReg]) (by simp [cmpReg]) (by simp [cmpReg]), by simp [cmpReg],
    ⟨by simp [cmpReg], by simp [cmpReg], by simp [cmpReg], ?_⟩, (Source.read_readOnly _ _).of_same h, h⟩
  · have hf := aluCmp_flags (s.reg r) (src.read s).1 s
    rw [← aluCmp_congr _ _ (t := (src.read s).2) (by simp)] at hf
    simpa [cmpReg, hr] using hf
  · constructor <;> simp [cmpReg]

theorem cmpMem_runs (m : Mode) (src : Source) (s : State) :
    let dst := memRead (m.ea (src.read s).2).1 (m.ea (src.read s).2).2
    Compared dst.1 (src.read s).1 s.flags (cmpMem m src s).flags ∧
      SameRegs s (cmpMem m src s) ∧ (cmpMem m src s).sp = s.sp ∧ Steady s (cmpMem m src s) ∧
      ReadOnly s (cmpMem m src s) ∧ SameDevices dst.2 (cmpMem m src s) := by
  intro dst
  have h : SameDevices dst.2 (cmpMem m src s) := .of_eq (by simp [cmpMem, dst, Source.read])
    (by simp [cmpMem, dst]) (by simp [cmpMem, dst, Source.read])
  have hro : ReadOnly s dst.2 := ((Source.read_readOnly _ _).trans (Mode.ea_readOnly _ _)).trans (memRead_readOnly _ _)
  refine ⟨?_, .of_eq (by simp [cmpMem]) (by simp [cmpMem]) (by simp [cmpMem]), by simp [cmpMem],
    ⟨by simp [cmpMem], by simp [cmpMem], by simp [cmpMem], ?_⟩, hro.of_same h, h⟩
  · have hf := aluCmp_flags dst.1 (src.read s).1 s
    rw [← aluCmp_congr _ _ (t := dst.2) (by simp [dst])] at hf
    exact hf
  · constructor <;> simp [cmpMem]

/-! ### One-operand forms -/

theorem rmwReg_runs (op : RmwOp) (r : Reg8) (s : State) :
    (∀ q, (rmwReg op r s).reg q = if q = r then (rmwFn op (s.reg r) s).1 else s.reg q) ∧
      (rmwReg op r s).flags = (rmwFn op (s.reg r) s).2.flags ∧
      (rmwReg op r s).sp = s.sp ∧ Steady s (rmwReg op r s) ∧ SameDevices s (rmwReg op r s) := by
  refine ⟨fun q => ?_, by simp [rmwReg], by simp [rmwReg], ⟨by simp [rmwReg], by simp [rmwReg], by simp [rmwReg], ?_⟩,
    .of_eq (by simp [rmwReg]) (by simp [rmwReg]) (by simp [rmwReg])⟩
  · cases q <;> cases r <;> simp [rmwReg, State.setReg]
  · constructor <;> simp [rmwReg]

theorem rmwMem_runs (op : RmwOp) (m : Mode) (s : State) :
    let ea := m.ea s
    let dst := memRead ea.1 ea.2
    Stored ea.1 (rmwFn op dst.1 s).1 dst.2 (rmwMem op m s) ∧ ReadOnly s dst.2 ∧
      (rmwMem op m s).flags = (rmwFn op dst.1 s).2.flags ∧
      SameRegs s (rmwMem op m s) ∧ (rmwMem op m s).sp = s.sp ∧ Steady s (rmwMem op m s) := by
  intro ea dst
  have hc := rmwFn_congr op dst.1 (s := s) (t := dst.2) (by simp [dst, ea])
  refine ⟨?_, (Mode.ea_readOnly _ _).trans (memRead_readOnly _ _), ?_,
    .of_eq (by simp [rmwMem]) (by simp [rmwMem]) (by simp [rmwMem]), by simp [rmwMem],
    ⟨by simp [rmwMem], by simp [rmwMem], by simp [rmwMem], ?_⟩⟩
  · have he : rmwMem op m s = memWrite ea.1 (rmwFn op dst.1 dst.2).1 (rmwFn op dst.1 dst.2).2 := rfl
    rw [← hc.1, he]
    exact memWrite_stored _ _ (by simp) (by simp) (by simp) (by simp)
  · rw [← hc.2]; simp [rmwMem, dst, ea]
  · constructor <;> simp [rmwMem]

theorem modifyAt_runs (ea : Word) (f : Byte → Byte) (s : State) :
    Stored ea (f (memRead ea s).1) (memRead ea s).2 (modifyAt ea f s) ∧ ReadOnly s (memRead ea s).2 ∧
      SameRegs s (modifyAt ea f s) ∧ (modifyAt ea f s).flags = s.flags ∧ (modifyAt ea f s).sp = s.sp ∧
      Steady s (modifyAt ea f s) := by
  refine ⟨memWrite_stored _ _ rfl rfl rfl rfl, memRead_readOnly _ _,
    .of_eq (by simp [modifyAt]) (by simp [modifyAt]) (by simp [modifyAt]), by simp [modifyAt], by simp [modifyAt],
    ⟨by simp [modifyAt], by simp [modifyAt], by simp [modifyAt], ?_⟩⟩
  constructor <;> simp [modifyAt]

theorem testAndModify_runs (ea : Word) (f : Byte → Byte) (s : State) :
    Stored ea (f (memRead ea s).1) (memRead ea s).2 (testAndModify ea f s) ∧ ReadOnly s (memRead ea s).2 ∧
      (testAndModify ea f s).flags =
        { s.flags with n := (s.a - (memRead ea s).1).msb, z := decide (s.a - (memRead ea s).1 = 0) } ∧
      SameRegs s (testAndModify ea f s) ∧ (testAndModify ea f s).sp = s.sp ∧ Steady s (testAndModify ea f s) := by
  have he : testAndModify ea f s =
      memWrite ea (f (memRead ea s).1) (setNZ8 ((memRead ea s).2.a - (memRead ea s).1) (memRead ea s).2) := rfl
  refine ⟨by rw [he]; exact memWrite_stored _ _ rfl rfl rfl rfl, memRead_readOnly _ _, by simp [testAndModify],
    .of_eq (by simp [testAndModify]) (by simp [testAndModify]) (by simp [testAndModify]), by simp [testAndModify],
    ⟨by simp [testAndModify], by simp [testAndModify], by simp [testAndModify], ?_⟩⟩
  constructor <;> simp [testAndModify]

theorem carryFromBit_runs (f : Bool → Bool → Bool) (ea : Word) (b : Fin 8) (s : State) :
    (carryFromBit f ea b s).flags = { s.flags with c := f s.flags.c ((memRead ea s).1.getLsbD b) } ∧
      SameRegs s (carryFromBit f ea b s) ∧ (carryFromBit f ea b s).sp = s.sp ∧ Steady s (carryFromBit f ea b s) ∧
      ReadOnly s (carryFromBit f ea b s) ∧ SameDevices (memRead ea s).2 (carryFromBit f ea b s) := by
  have h : SameDevices (memRead ea s).2 (carryFromBit f ea b s) :=
    .of_eq (by simp [carryFromBit]) (by simp [carryFromBit]) (by simp [carryFromBit])
  refine ⟨by simp [carryFromBit], .of_eq (by simp [carryFromBit]) (by simp [carryFromBit]) (by simp [carryFromBit]),
    by simp [carryFromBit], ⟨by simp [carryFromBit], by simp [carryFromBit], by simp [carryFromBit], ?_⟩,
    (memRead_readOnly _ _).of_same h, h⟩
  constructor <;> simp [carryFromBit]

/-! ### Words -/

theorem StoredTwo.of_writes (a : Word) (v : Byte) (b : Word) (w : Byte) {s t u z : State}
    (h1 : t.ram = s.ram) (h2 : t.timers = s.timers) (h3 : t.dspRegs = s.dspRegs) (h4 : t.time = s.time)
    (h5 : u.ram = (memWrite a v t).ram) (h6 : u.timers = (memWrite a v t).timers)
    (h7 : u.dspRegs = (memWrite a v t).dspRegs) (h8 : u.time = s.time)
    (h9 : SameDevices (memWrite b w u) z) : StoredTwo a v b w s z := by
  have hc := memWrite_congr a v h1 h2 h3 h4
  have hd := memWrite_congr b w (s := memWrite a v s) (t := u) (h5.trans hc.1) (h6.trans hc.2.2) (h7.trans hc.2.1)
    (by simp [h8])
  refine ⟨fun c => ?_, h9.bank.trans hd.2.1, h9.timers.trans hd.2.2⟩
  rw [h9.bytes, memWrite_peek, State.peek, h5, hc.1, ← State.peek, memWrite_peek]

theorem modifyWordDp_runs (f : Word → Word) (o : Byte) (s : State) :
    let w := readWordDp o s
    let r := f w.1
    StoredTwo (dpAddr o s) r.lo (dpAddr (o + 1) s) r.hi w.2 (modifyWordDp f o s) ∧ ReadOnly s w.2 ∧
      (modifyWordDp f o s).flags = { s.flags with n := r.msb, z := decide (r = 0) } ∧
      SameRegs s (modifyWordDp f o s) ∧ (modifyWordDp f o s).sp = s.sp ∧ Steady s (modifyWordDp f o s) := by
  intro w r
  refine ⟨?_, readWordDp_readOnly o s, by simp [modifyWordDp, w, r],
    .of_eq (by simp [modifyWordDp]) (by simp [modifyWordDp]) (by simp [modifyWordDp]), by simp [modifyWordDp],
    ⟨by simp [modifyWordDp], by simp [modifyWordDp], by simp [modifyWordDp], ?_⟩⟩
  · have h1 : dpAddr o w.2 = dpAddr o s := dpAddr_congr o (by simp [w])
    have h2 : dpAddr (o + 1) (memWrite (dpAddr o w.2) r.lo w.2) = dpAddr (o + 1) s := dpAddr_congr _ (by simp [w])
    rw [← h1, ← h2]
    exact StoredTwo.of_writes _ _ _ _ rfl rfl rfl rfl rfl rfl rfl (by simp) (.of_eq rfl rfl rfl)
  · constructor <;> simp [modifyWordDp]

/-! ### Branches -/

theorem branch_runs (c : Bool) (rel : Byte) (s : State) :
    Branched c rel s (branch c rel s) ∧ SameRegs s (branch c rel s) ∧ (branch c rel s).flags = s.flags ∧
      (branch c rel s).sp = s.sp ∧ SameDevices s (branch c rel s) := by
  refine ⟨⟨by cases c <;> rfl, by cases c <;> rfl, by simp, ?_⟩, .of_eq (by simp) (by simp) (by simp), by simp, by simp,
    .of_eq (by simp) (by simp) (by simp)⟩
  constructor <;> simp

/-- A branch after reads or writes that leave PC, the time and the machine alone. -/
theorem Branched.of_steady {c : Bool} {rel : Byte} {s t : State} (h : Steady s t) : Branched c rel s (branch c rel t) := by
  have k := (branch_runs c rel t).1
  refine ⟨by rw [k.pc, h.pc], by rw [k.time, h.time], k.halted.trans h.halted, ?_⟩
  constructor <;> simp [h.machine.target, h.machine.fault, h.machine.everyOther, h.machine.rateCounter, h.machine.konLatch,
    h.machine.kofLatch, h.machine.voices, h.machine.phase, h.machine.frame, h.machine.params]

theorem memRead_steady (a : Word) (s : State) : Steady s (memRead a s).2 :=
  ⟨by simp, by simp, by simp, by constructor <;> simp⟩

theorem Source.read_steady (src : Source) (s : State) : Steady s (src.read s).2 :=
  ⟨by simp, by simp, by simp, by constructor <;> simp⟩

theorem branchOnBit_runs (want : Bool) (b : Fin 8) (o rel : Byte) (s : State) :
    let m := memRead (dpAddr o s) s
    Branched (m.1.getLsbD b == want) rel s (branchOnBit want b o rel s) ∧ SameRegs s (branchOnBit want b o rel s) ∧
      (branchOnBit want b o rel s).flags = s.flags ∧ (branchOnBit want b o rel s).sp = s.sp ∧
      ReadOnly s (branchOnBit want b o rel s) ∧ SameDevices m.2 (branchOnBit want b o rel s) := by
  intro m
  have h : SameDevices m.2 (branchOnBit want b o rel s) := (branch_runs _ _ m.2).2.2.2.2
  exact ⟨.of_steady (memRead_steady _ _), .of_eq (by simp [branchOnBit]) (by simp [branchOnBit]) (by simp [branchOnBit]),
    by simp [branchOnBit], by simp [branchOnBit], (memRead_readOnly _ _).of_same h, h⟩

theorem compareAndBranch_runs (md : Mode) (rel : Byte) (s : State) :
    let m := (Source.mem md).read s
    Branched (s.a != m.1) rel s (compareAndBranch md rel s) ∧ SameRegs s (compareAndBranch md rel s) ∧
      (compareAndBranch md rel s).flags = s.flags ∧ (compareAndBranch md rel s).sp = s.sp ∧
      ReadOnly s (compareAndBranch md rel s) ∧ SameDevices m.2 (compareAndBranch md rel s) := by
  intro m
  have h : SameDevices m.2 (compareAndBranch md rel s) := (branch_runs _ _ m.2).2.2.2.2
  refine ⟨?_, .of_eq (by simp [compareAndBranch]) (by simp [compareAndBranch]) (by simp [compareAndBranch]),
    by simp [compareAndBranch], by simp [compareAndBranch], (Source.read_readOnly _ _).of_same h, h⟩
  have ha : m.2.a = s.a := by simp [m]
  have he : compareAndBranch md rel s = branch (m.2.a != m.1) rel m.2 := rfl
  rw [he, ha]
  exact .of_steady (Source.read_steady _ _)

/-! ### The stack -/

theorem Pushed.one (v : Byte) (s : State) : Pushed [v] s (push v s) :=
  ⟨fun b => push_peek v s b, push_dspRegs v s, push_timers v s, by simp⟩

theorem Pushed.push {vs : List Byte} {s t : State} (v : Byte) (h : Pushed vs s t) :
    Pushed (vs ++ [v]) s (push v t) := by
  have key : ∀ (vs : List Byte) (sp : Byte) (ram : Word → Byte) (b : Word),
      afterPushes (vs ++ [v]) sp ram b =
        if b = Word.mk 1 (sp - BitVec.ofNat 8 vs.length) then v else afterPushes vs sp ram b := by
    intro vs
    induction vs with
    | nil => intro sp ram b; simp [afterPushes]
    | cons w ws ih =>
      intro sp ram b
      rw [List.cons_append, afterPushes, ih, afterPushes]
      congr 3
      simp only [List.length_cons, BitVec.ofNat_add]
      bv_omega
  refine ⟨fun b => ?_, (push_dspRegs v t).trans h.bank, (push_timers v t).trans h.timers, ?_⟩
  · rw [push_peek, key, h.sp, h.bytes]
  · rw [push_sp, h.sp, List.length_append, List.length_singleton, BitVec.ofNat_add]
    bv_omega

theorem pushPc_pushed (s : State) : Pushed [s.pc.hi, s.pc.lo] s (pushPc s) :=
  (Pushed.one s.pc.hi s).push s.pc.lo

/-- A push cannot touch a byte outside page 1. -/
theorem afterPushes_high (vs : List Byte) (sp : Byte) (ram : Word → Byte) (b : Word) (h : 0x0200 ≤ b) :
    afterPushes vs sp ram b = ram b := by
  induction vs generalizing sp ram with
  | nil => rfl
  | cons v vs ih =>
    rw [afterPushes, ih, if_neg]
    rintro rfl
    rw [BitVec.le_def] at h
    have : (Word.mk 1 sp).toNat < 512 := by
      rw [Word.mk, BitVec.toNat_append, Nat.shiftLeft_eq]
      exact Nat.or_lt_two_pow (n := 9) (by decide) (Nat.lt_trans sp.isLt (by decide))
    change 512 ≤ _ at h
    omega

end Sys2Proof.Machine
end

