-- ==== Sys2Proof/Laws/Flags.lean ====
section
/-! SUPPORT. Laws/Flags.lean: the flag computations of Flags.lean in the arithmetic terms of Safety.lean. -/

namespace Sys2Proof.Machine

/-- One bit of a word, tested with a mask. -/
theorem and_twoPow_ne_zero {n : Nat} (x : BitVec n) (i : Nat) (h : i < n) :
    decide (x &&& BitVec.twoPow n i ≠ 0) = x.getLsbD i := by
  rw [BitVec.and_twoPow]
  cases hx : x.getLsbD i
  · simp
  · have : BitVec.twoPow n i ≠ 0 := fun h0 => by
      have := congrArg (BitVec.getLsbD · i) h0
      simp [h] at this
    simp only [if_true, decide_eq_true_eq]
    exact this

/-- The hardware's overflow bit: equal signs in, another sign out. -/
theorem overflow_bit {n : Nat} (d src r : BitVec n) (h : 0 < n) :
    decide (~~~(d ^^^ src) &&& (d ^^^ r) &&& BitVec.twoPow n (n - 1) ≠ 0) = (d.msb == src.msb && d.msb != r.msb) := by
  rw [and_twoPow_ne_zero _ _ (by omega), BitVec.getLsbD_and, BitVec.getLsbD_not, BitVec.getLsbD_xor, BitVec.getLsbD_xor,
    BitVec.msb_eq_getLsbD_last, BitVec.msb_eq_getLsbD_last, BitVec.msb_eq_getLsbD_last]
  have : decide (n - 1 < n) = true := decide_eq_true (by omega)
  rw [this]
  cases d.getLsbD (n - 1) <;> cases src.getLsbD (n - 1) <;> cases r.getLsbD (n - 1) <;> rfl

theorem State.hib_eq (s : State) (b : Bool) : s.hib b = (decide (s.params.hibPolicy = .preserve) && b) := by
  unfold State.hib
  cases s.params.hibPolicy <;> simp

/-- R263, R264. -/
theorem aluAdd_added (d src : Byte) (s : State) :
    Added 8 s.params d src s.flags.c.toNat (aluAdd d src s).1 s.flags (aluAdd d src s).2.flags := by
  have hv := overflow_bit d src (aluAdd d src s).1 (by decide)
  have hh := and_twoPow_ne_zero (d ^^^ src ^^^ (aluAdd d src s).1) 4 (by decide)
  change decide (_ &&& (0x80 : Byte) ≠ 0) = _ at hv
  change decide (_ &&& (0x10 : Byte) ≠ 0) = _ at hh
  refine ⟨rfl, ?_, ?_, ?_, ?_, fun hp => ?_, fun hp => ?_, fun hp hq => ?_⟩
  iterate 4
    simp only [aluAdd]
    cases s.params.flagProfile <;> cases s.params.nzFromRawSum <;> simp [Nat.lt_iff_add_one_le]
  · simp only [aluAdd, hp]
    cases s.params.nzFromRawSum <;> exact ⟨rfl, rfl⟩
  · rw [← hv]
    simp only [aluAdd, hp]
    cases s.params.nzFromRawSum <;> rfl
  · rw [← hh]
    simp only [aluAdd, hp, setH, State.hib]
    cases s.params.nzFromRawSum <;> simp [hq]

/-- R390, R397, R398. -/
theorem wordAdd_added (d src : Word) (cin : Nat) (s : State) :
    Added 16 s.params d src cin (wordAdd d src cin s).1 s.flags (wordAdd d src cin s).2.flags := by
  have hv := overflow_bit d src (wordAdd d src cin s).1 (by decide)
  have hh := and_twoPow_ne_zero (d ^^^ src ^^^ (wordAdd d src cin s).1) 12 (by decide)
  change decide (_ &&& (0x8000 : Word) ≠ 0) = _ at hv
  change decide (_ &&& (0x1000 : Word) ≠ 0) = _ at hh
  refine ⟨rfl, ?_, ?_, ?_, ?_, fun hp => ?_, fun hp => ?_, fun hp hq => ?_⟩
  iterate 4
    simp only [wordAdd]
    cases s.params.flagProfile <;> cases s.params.nzFromRawSum <;> simp [Nat.lt_iff_add_one_le]
  · simp only [wordAdd, hp]
    cases s.params.nzFromRawSum <;> exact ⟨rfl, rfl⟩
  · rw [← hv]
    simp only [wordAdd, hp]
    cases s.params.nzFromRawSum <;> rfl
  · rw [← hh]
    simp only [wordAdd, hp, setH, State.hib]
    cases s.params.nzFromRawSum <;> simp [hq]

/-- R399: CMPW as a comparison of unsigned numbers. -/
theorem wordCmp_flags (d v : Word) (s : State) : Compared d v s.flags (wordCmp d v s).flags := by
  have h1 : decide (d.toNat + (~~~v).toNat + 1 > 0xFFFF) = decide (v ≤ d) := by
    rw [decide_eq_decide, BitVec.toNat_not, BitVec.le_def]; omega
  have h2 : BitVec.ofNat 16 (d.toNat + (~~~v).toNat + 1) = d - v := by
    apply BitVec.eq_of_toNat_eq
    rw [BitVec.toNat_ofNat, BitVec.toNat_not, BitVec.toNat_sub]; congr 1; omega
  have h3 : decide (d - v = 0) = decide (d = v) := by
    rw [decide_eq_decide]; constructor <;> intro h <;> bv_omega
  simp only [Compared, wordCmp, setNZ16, setC, h1, h2, h3]

/-- The word flags depend on the flags and the parameters alone. -/
theorem wordAdd_congr (d v : Word) (cin : Nat) {s t : State} (h : t.flags = s.flags) (hp : t.params = s.params) :
    (wordAdd d v cin t).1 = (wordAdd d v cin s).1 ∧ (wordAdd d v cin t).2.flags = (wordAdd d v cin s).2.flags := by
  refine ⟨rfl, ?_⟩
  simp only [wordAdd, setNZ16, setC, setV, setH, State.hib, h, hp]
  split <;> split <;> simp

end Sys2Proof.Machine
end

