-- ==== Sys2Proof/Laws/Loop.lean ====
section
/-! SUPPORT. Laws/Loop.lean: what a fetch, the operand fetches and one round of the loop can do. -/

namespace Sys2Proof.Machine

/-- R182: a fetch changes RAM and the timers at most. -/
theorem fetch_eq (a : Word) (s : State) :
    (fetch a s).2 = { s with ram := (fetch a s).2.ram, timers := (fetch a s).2.timers } := by
  unfold fetch
  split
  · exact memRead_eq a s
  · rfl

@[simp] theorem fetch_pc (a : Word) (s : State) : (fetch a s).2.pc = s.pc := by rw [fetch_eq]
@[simp] theorem fetch_time (a : Word) (s : State) : (fetch a s).2.time = s.time := by rw [fetch_eq]
@[simp] theorem fetch_target (a : Word) (s : State) : (fetch a s).2.target = s.target := by rw [fetch_eq]
@[simp] theorem fetch_phase (a : Word) (s : State) : (fetch a s).2.phase = s.phase := by rw [fetch_eq]
@[simp] theorem fetch_params (a : Word) (s : State) : (fetch a s).2.params = s.params := by rw [fetch_eq]
@[simp] theorem fetch_fault (a : Word) (s : State) : (fetch a s).2.fault = s.fault := by rw [fetch_eq]
@[simp] theorem fetch_halted (a : Word) (s : State) : (fetch a s).2.halted = s.halted := by rw [fetch_eq]
@[simp] theorem fetch_voices (a : Word) (s : State) : (fetch a s).2.voices = s.voices := by rw [fetch_eq]
@[simp] theorem fetch_flags (a : Word) (s : State) : (fetch a s).2.flags = s.flags := by rw [fetch_eq]
@[simp] theorem fetch_rateCounter (a : Word) (s : State) : (fetch a s).2.rateCounter = s.rateCounter := by rw [fetch_eq]

theorem fetch_readOnly (a : Word) (s : State) : ReadOnly s (fetch a s).2 := by
  unfold fetch
  split
  · exact memRead_readOnly a s
  · exact ReadOnly.refl s

/-- A fetch outside the refreshed addresses is a plain read. -/
theorem fetch_plain (a : Word) (s : State) (h : refreshed a = false) : fetch a s = (s.peek a, s) := by
  unfold fetch
  split
  · exact memRead_plain a s h
  · rfl

theorem fetch_wf (a : Word) (s : State) (h : Memory.wf s.ram) : Memory.wf (fetch a s).2.ram := by
  unfold fetch
  split
  · exact memRead_wf a s h
  · exact h

/-- R174, R175: the operand fetches by the length of the opcode. -/
theorem fetchOperands_eq (op : Byte) (s : State) :
    fetchOperands op s =
      (let f1 := fetch (s.pc + 1) s
       let f2 := if opLength op = 3 then fetch (s.pc + 2) f1.2 else (0, f1.2)
       (f1.1, f2.1, { f2.2 with pc := s.pc + BitVec.ofNat 16 (opLength op) })) := by
  unfold fetchOperands opLength
  cases (opInfo op).layout <;> simp [Layout.length]

/-- R770: a step of a running machine that is not about to run its DSP sample is one round of the loop. -/
theorem step_cpu (s : State) (hf : s.fault = none) (hp : s.phase ≠ .dsp) : step s = cpuStep (inCall s) := by
  unfold step
  rw [hf]
  unfold advance inCall
  cases h : s.phase
  · rfl
  · rfl
  · exact absurd h hp

theorem step_dsp (s : State) (hf : s.fault = none) (hp : s.phase = .dsp) : step s = dspSample s := by
  unfold step
  rw [hf]
  unfold advance
  rw [hp]

theorem step_faulted (s : State) (r : FaultRecord) (h : s.fault = some r) : step s = r.raise s := by
  unfold step
  rw [h]

theorem inCall_halted (s : State) : (inCall s).halted = s.halted := by unfold inCall; split <;> rfl
theorem inCall_params (s : State) : (inCall s).params = s.params := by unfold inCall; split <;> rfl
theorem inCall_time (s : State) : (inCall s).time = s.time := by unfold inCall; split <;> rfl

/-- The voices of a sample see the machine's own voice, RAM, the bank, the latches, the flag, the rate counter and the parameters only. -/
theorem voiceStep_congr (v : Fin 8) {s t : State} (hv : t.voices[v] = s.voices[v]) (hr : t.ram = s.ram)
    (hd : t.dspRegs = s.dspRegs) (he : t.everyOther = s.everyOther) (hc : t.rateCounter = s.rateCounter)
    (hk : t.konLatch = s.konLatch) (ho : t.kofLatch = s.kofLatch) (hp : t.params = s.params) :
    voiceStep t v = voiceStep s v := by
  have h1 : voiceFetch t v = voiceFetch s v := by
    simp only [voiceFetch, State.peek, State.voicePitch, State.voiceReg, hv, hr, hd]
  unfold voiceStep
  rw [h1]
  generalize voiceFetch s v = r
  clear h1 hv
  cases s; cases t
  dsimp only at hr hd he hc hk ho hp
  subst hr hd he hc hk ho hp
  rfl

end Sys2Proof.Machine
end

