-- ==== Sys2Proof/Laws/Params.lean ====
section
/-! SUPPORT. Laws/Params.lean: the functions among the parameters of R8 under the default setting, and that every function on
their arguments is a setting (log 8). -/

namespace Sys2Proof

@[simp] theorem Params.divOverflow_standard (ya : Word) (x : Byte) :
    Params.standard.divOverflow ya x = Machine.standardDivOverflow ya.toNat x.toNat := rfl

@[simp] theorem Params.rateFires_standard (rate c : Nat) :
    Params.standard.rateFires rate c = Machine.standardRateFires rate c := rfl

/-- The arguments of a list with their values: looking one up gives its value. -/
theorem lookup_graph {α β : Type} [BEq α] [LawfulBEq α] (f : α → β) (d : β) {a : α} :
    ∀ l : List α, a ∈ l → ((l.map fun k => (k, f k)).lookup a).getD d = f a
  | k :: l, h => by
    rw [List.map_cons, List.lookup_cons]
    by_cases hk : a = k
    · subst hk; simp
    · rw [beq_false_of_ne hk]
      exact lookup_graph f d l ((List.mem_cons.mp h).resolve_left hk)

/-- R392: every function of YA and X is the DIV_OVERFLOW of some setting. -/
theorem Params.exists_divOverflow (f : Word → Byte → Nat × Nat) (p : Params) :
    ∃ l, ∀ ya x, ({ p with divOverflowAt := l }).divOverflow ya x = f ya x := by
  obtain ⟨l, h⟩ : ∃ l : List (Word × Byte), ∀ k, k ∈ l := ⟨Finset.univ.toList, by simp⟩
  exact ⟨l.map fun k => (k, f k.1 k.2), fun ya x => lookup_graph (fun k : Word × Byte => f k.1 k.2) _ l (h (ya, x))⟩

/-- R730: every function of a rate 0..31 and a counter 0..30719 is the RATE_FIRES of some setting. -/
theorem Params.exists_rateFires (f : Nat → Nat → Bool) (p : Params) :
    ∃ l, ∀ rate c, rate < 32 → c ≤ rateCounterTop → ({ p with rateFiresAt := l }).rateFires rate c = f rate c := by
  obtain ⟨l, h⟩ : ∃ l : List (Nat × Nat), ∀ rate c, rate < 32 → c ≤ rateCounterTop → (rate, c) ∈ l :=
    ⟨(List.range 32).product (List.range (rateCounterTop + 1)), fun rate c hr hc =>
      List.mem_product.mpr ⟨List.mem_range.mpr hr, List.mem_range.mpr (Nat.lt_succ_of_le hc)⟩⟩
  exact ⟨l.map fun k => (k, f k.1 k.2), fun rate c hr hc =>
    lookup_graph (fun k : Nat × Nat => f k.1 k.2) _ l (h rate c hr hc)⟩

end Sys2Proof
end

