-- ==== Sys2Proof/Laws/PerInstr.lean ====
section
/-! SUPPORT. Laws/PerInstr.lean: per-instruction facts about the syntax: an instruction has as many bytes as the opcode
map gives its opcode (R150, R180). -/

namespace Sys2Proof.Laws

/-- The encoding begins with an opcode whose LEN is the number of its bytes. -/
def EncodedLength.Statement (i : Instr) : Prop :=
  ∃ op bs, encode i = op :: bs ∧ opLength op = (encode i).length

theorem EncodedLength.nop : EncodedLength.Statement (.nop) := ⟨_, _, rfl, rfl⟩
theorem EncodedLength.tcall0 : EncodedLength.Statement (.tcall0) := ⟨_, _, rfl, rfl⟩
theorem EncodedLength.set1Bit0 (dp : Byte) : EncodedLength.Statement (.set1Bit0 dp) := ⟨_, _, rfl, rfl⟩
theorem EncodedLength.bbsBit0 (dp : Byte) (rel : Byte) : EncodedLength.Statement (.bbsBit0 dp rel) := ⟨_, _, rfl, rfl⟩
theorem EncodedLength.orADp (dp : Byte) : EncodedLength.Statement (.orADp dp) := ⟨_, _, rfl, rfl⟩
theorem EncodedLength.orAAbs (m : Word) : EncodedLength.Statement (.orAAbs m) := ⟨_, _, rfl, rfl⟩
theorem EncodedLength.orAIndX : EncodedLength.Statement (.orAIndX) := ⟨_, _, rfl, rfl⟩
theorem EncodedLength.orADpXInd (dp : Byte) : EncodedLength.Statement (.orADpXInd dp) := ⟨_, _, rfl, rfl⟩
theorem EncodedLength.orAImm (imm : Byte) : EncodedLength.Statement (.orAImm imm) := ⟨_, _, rfl, rfl⟩
theorem EncodedLength.orDdSs (dd : Byte) (ss : Byte) : EncodedLength.Statement (.orDdSs dd ss) := ⟨_, _, rfl, rfl⟩
theorem EncodedLength.or1CMb (m : Word) (bit : Fin 8) : EncodedLength.Statement (.or1CMb m bit) := ⟨_, _, rfl, rfl⟩
theorem EncodedLength.aslDp (dp : Byte) : EncodedLength.Statement (.aslDp dp) := ⟨_, _, rfl, rfl⟩
theorem EncodedLength.aslAbs (m : Word) : EncodedLength.Statement (.aslAbs m) := ⟨_, _, rfl, rfl⟩
theorem EncodedLength.pushPsw : EncodedLength.Statement (.pushPsw) := ⟨_, _, rfl, rfl⟩
theorem EncodedLength.tset1 (m : Word) : EncodedLength.Statement (.tset1 m) := ⟨_, _, rfl, rfl⟩
theorem EncodedLength.brk : EncodedLength.Statement (.brk) := ⟨_, _, rfl, rfl⟩
theorem EncodedLength.bpl (rel : Byte) : EncodedLength.Statement (.bpl rel) := ⟨_, _, rfl, rfl⟩
theorem EncodedLength.tcall1 : EncodedLength.Statement (.tcall1) := ⟨_, _, rfl, rfl⟩
theorem EncodedLength.clr1Bit0 (dp : Byte) : EncodedLength.Statement (.clr1Bit0 dp) := ⟨_, _, rfl, rfl⟩
theorem EncodedLength.bbcBit0 (dp : Byte) (rel : Byte) : EncodedLength.Statement (.bbcBit0 dp rel) := ⟨_, _, rfl, rfl⟩
theorem EncodedLength.orADpX (dp : Byte) : EncodedLength.Statement (.orADpX dp) := ⟨_, _, rfl, rfl⟩
theorem EncodedLength.orAAbsX (m : Word) : EncodedLength.Statement (.orAAbsX m) := ⟨_, _, rfl, rfl⟩
theorem EncodedLength.orAAbsY (m : Word) : EncodedLength.Statement (.orAAbsY m) := ⟨_, _, rfl, rfl⟩
theorem EncodedLength.orADpIndY (dp : Byte) : EncodedLength.Statement (.orADpIndY dp) := ⟨_, _, rfl, rfl⟩
theorem EncodedLength.orDpImm (dp : Byte) (imm : Byte) : EncodedLength.Statement (.orDpImm dp imm) := ⟨_, _, rfl, rfl⟩
theorem EncodedLength.orIndXIndY : EncodedLength.Statement (.orIndXIndY) := ⟨_, _, rfl, rfl⟩
theorem EncodedLength.decw (dp : Byte) : EncodedLength.Statement (.decw dp) := ⟨_, _, rfl, rfl⟩
theorem EncodedLength.aslDpX (dp : Byte) : EncodedLength.Statement (.aslDpX dp) := ⟨_, _, rfl, rfl⟩
theorem EncodedLength.aslA : EncodedLength.Statement (.aslA) := ⟨_, _, rfl, rfl⟩
theorem EncodedLength.decX : EncodedLength.Statement (.decX) := ⟨_, _, rfl, rfl⟩
theorem EncodedLength.cmpXAbs (m : Word) : EncodedLength.Statement (.cmpXAbs m) := ⟨_, _, rfl, rfl⟩
theorem EncodedLength.jmpAbsXInd (m : Word) : EncodedLength.Statement (.jmpAbsXInd m) := ⟨_, _, rfl, rfl⟩
theorem EncodedLength.clrp : EncodedLength.Statement (.clrp) := ⟨_, _, rfl, rfl⟩
theorem EncodedLength.tcall2 : EncodedLength.Statement (.tcall2) := ⟨_, _, rfl, rfl⟩
theorem EncodedLength.set1Bit1 (dp : Byte) : EncodedLength.Statement (.set1Bit1 dp) := ⟨_, _, rfl, rfl⟩
theorem EncodedLength.bbsBit1 (dp : Byte) (rel : Byte) : EncodedLength.Statement (.bbsBit1 dp rel) := ⟨_, _, rfl, rfl⟩
theorem EncodedLength.andADp (dp : Byte) : EncodedLength.Statement (.andADp dp) := ⟨_, _, rfl, rfl⟩
theorem EncodedLength.andAAbs (m : Word) : EncodedLength.Statement (.andAAbs m) := ⟨_, _, rfl, rfl⟩
theorem EncodedLength.andAIndX : EncodedLength.Statement (.andAIndX) := ⟨_, _, rfl, rfl⟩
theorem EncodedLength.andADpXInd (dp : Byte) : EncodedLength.Statement (.andADpXInd dp) := ⟨_, _, rfl, rfl⟩
theorem EncodedLength.andAImm (imm : Byte) : EncodedLength.Statement (.andAImm imm) := ⟨_, _, rfl, rfl⟩
theorem EncodedLength.andDdSs (dd : Byte) (ss : Byte) : EncodedLength.Statement (.andDdSs dd ss) := ⟨_, _, rfl, rfl⟩
theorem EncodedLength.or1CNotMb (m : Word) (bit : Fin 8) : EncodedLength.Statement (.or1CNotMb m bit) := ⟨_, _, rfl, rfl⟩
theorem EncodedLength.rolDp (dp : Byte) : EncodedLength.Statement (.rolDp dp) := ⟨_, _, rfl, rfl⟩
theorem EncodedLength.rolAbs (m : Word) : EncodedLength.Statement (.rolAbs m) := ⟨_, _, rfl, rfl⟩
theorem EncodedLength.pushA : EncodedLength.Statement (.pushA) := ⟨_, _, rfl, rfl⟩
theorem EncodedLength.cbneDp (dp : Byte) (rel : Byte) : EncodedLength.Statement (.cbneDp dp rel) := ⟨_, _, rfl, rfl⟩
theorem EncodedLength.bra (rel : Byte) : EncodedLength.Statement (.bra rel) := ⟨_, _, rfl, rfl⟩
theorem EncodedLength.bmi (rel : Byte) : EncodedLength.Statement (.bmi rel) := ⟨_, _, rfl, rfl⟩
theorem EncodedLength.tcall3 : EncodedLength.Statement (.tcall3) := ⟨_, _, rfl, rfl⟩
theorem EncodedLength.clr1Bit1 (dp : Byte) : EncodedLength.Statement (.clr1Bit1 dp) := ⟨_, _, rfl, rfl⟩
theorem EncodedLength.bbcBit1 (dp : Byte) (rel : Byte) : EncodedLength.Statement (.bbcBit1 dp rel) := ⟨_, _, rfl, rfl⟩
theorem EncodedLength.andADpX (dp : Byte) : EncodedLength.Statement (.andADpX dp) := ⟨_, _, rfl, rfl⟩
theorem EncodedLength.andAAbsX (m : Word) : EncodedLength.Statement (.andAAbsX m) := ⟨_, _, rfl, rfl⟩
theorem EncodedLength.andAAbsY (m : Word) : EncodedLength.Statement (.andAAbsY m) := ⟨_, _, rfl, rfl⟩
theorem EncodedLength.andADpIndY (dp : Byte) : EncodedLength.Statement (.andADpIndY dp) := ⟨_, _, rfl, rfl⟩
theorem EncodedLength.andDpImm (dp : Byte) (imm : Byte) : EncodedLength.Statement (.andDpImm dp imm) := ⟨_, _, rfl, rfl⟩
theorem EncodedLength.andIndXIndY : EncodedLength.Statement (.andIndXIndY) := ⟨_, _, rfl, rfl⟩
theorem EncodedLength.incw (dp : Byte) : EncodedLength.Statement (.incw dp) := ⟨_, _, rfl, rfl⟩
theorem EncodedLength.rolDpX (dp : Byte) : EncodedLength.Statement (.rolDpX dp) := ⟨_, _, rfl, rfl⟩
theorem EncodedLength.rolA : EncodedLength.Statement (.rolA) := ⟨_, _, rfl, rfl⟩
theorem EncodedLength.incX : EncodedLength.Statement (.incX) := ⟨_, _, rfl, rfl⟩
theorem EncodedLength.cmpXDp (dp : Byte) : EncodedLength.Statement (.cmpXDp dp) := ⟨_, _, rfl, rfl⟩
theorem EncodedLength.call (m : Word) : EncodedLength.Statement (.call m) := ⟨_, _, rfl, rfl⟩
theorem EncodedLength.setp : EncodedLength.Statement (.setp) := ⟨_, _, rfl, rfl⟩
theorem EncodedLength.tcall4 : EncodedLength.Statement (.tcall4) := ⟨_, _, rfl, rfl⟩
theorem EncodedLength.set1Bit2 (dp : Byte) : EncodedLength.Statement (.set1Bit2 dp) := ⟨_, _, rfl, rfl⟩
theorem EncodedLength.bbsBit2 (dp : Byte) (rel : Byte) : EncodedLength.Statement (.bbsBit2 dp rel) := ⟨_, _, rfl, rfl⟩
theorem EncodedLength.eorADp (dp : Byte) : EncodedLength.Statement (.eorADp dp) := ⟨_, _, rfl, rfl⟩
theorem EncodedLength.eorAAbs (m : Word) : EncodedLength.Statement (.eorAAbs m) := ⟨_, _, rfl, rfl⟩
theorem EncodedLength.eorAIndX : EncodedLength.Statement (.eorAIndX) := ⟨_, _, rfl, rfl⟩
theorem EncodedLength.eorADpXInd (dp : Byte) : EncodedLength.Statement (.eorADpXInd dp) := ⟨_, _, rfl, rfl⟩
theorem EncodedLength.eorAImm (imm : Byte) : EncodedLength.Statement (.eorAImm imm) := ⟨_, _, rfl, rfl⟩
theorem EncodedLength.eorDdSs (dd : Byte) (ss : Byte) : EncodedLength.Statement (.eorDdSs dd ss) := ⟨_, _, rfl, rfl⟩
theorem EncodedLength.and1CMb (m : Word) (bit : Fin 8) : EncodedLength.Statement (.and1CMb m bit) := ⟨_, _, rfl, rfl⟩
theorem EncodedLength.lsrDp (dp : Byte) : EncodedLength.Statement (.lsrDp dp) := ⟨_, _, rfl, rfl⟩
theorem EncodedLength.lsrAbs (m : Word) : EncodedLength.Statement (.lsrAbs m) := ⟨_, _, rfl, rfl⟩
theorem EncodedLength.pushX : EncodedLength.Statement (.pushX) := ⟨_, _, rfl, rfl⟩
theorem EncodedLength.tclr1 (m : Word) : EncodedLength.Statement (.tclr1 m) := ⟨_, _, rfl, rfl⟩
theorem EncodedLength.pcall (up : Byte) : EncodedLength.Statement (.pcall up) := ⟨_, _, rfl, rfl⟩
theorem EncodedLength.bvc (rel : Byte) : EncodedLength.Statement (.bvc rel) := ⟨_, _, rfl, rfl⟩
theorem EncodedLength.tcall5 : EncodedLength.Statement (.tcall5) := ⟨_, _, rfl, rfl⟩
theorem EncodedLength.clr1Bit2 (dp : Byte) : EncodedLength.Statement (.clr1Bit2 dp) := ⟨_, _, rfl, rfl⟩
theorem EncodedLength.bbcBit2 (dp : Byte) (rel : Byte) : EncodedLength.Statement (.bbcBit2 dp rel) := ⟨_, _, rfl, rfl⟩
theorem EncodedLength.eorADpX (dp : Byte) : EncodedLength.Statement (.eorADpX dp) := ⟨_, _, rfl, rfl⟩
theorem EncodedLength.eorAAbsX (m : Word) : EncodedLength.Statement (.eorAAbsX m) := ⟨_, _, rfl, rfl⟩
theorem EncodedLength.eorAAbsY (m : Word) : EncodedLength.Statement (.eorAAbsY m) := ⟨_, _, rfl, rfl⟩
theorem EncodedLength.eorADpIndY (dp : Byte) : EncodedLength.Statement (.eorADpIndY dp) := ⟨_, _, rfl, rfl⟩
theorem EncodedLength.eorDpImm (dp : Byte) (imm : Byte) : EncodedLength.Statement (.eorDpImm dp imm) := ⟨_, _, rfl, rfl⟩
theorem EncodedLength.eorIndXIndY : EncodedLength.Statement (.eorIndXIndY) := ⟨_, _, rfl, rfl⟩
theorem EncodedLength.cmpw (dp : Byte) : EncodedLength.Statement (.cmpw dp) := ⟨_, _, rfl, rfl⟩
theorem EncodedLength.lsrDpX (dp : Byte) : EncodedLength.Statement (.lsrDpX dp) := ⟨_, _, rfl, rfl⟩
theorem EncodedLength.lsrA : EncodedLength.Statement (.lsrA) := ⟨_, _, rfl, rfl⟩
theorem EncodedLength.movXA : EncodedLength.Statement (.movXA) := ⟨_, _, rfl, rfl⟩
theorem EncodedLength.cmpYAbs (m : Word) : EncodedLength.Statement (.cmpYAbs m) := ⟨_, _, rfl, rfl⟩
theorem EncodedLength.jmpAbs (m : Word) : EncodedLength.Statement (.jmpAbs m) := ⟨_, _, rfl, rfl⟩
theorem EncodedLength.clrc : EncodedLength.Statement (.clrc) := ⟨_, _, rfl, rfl⟩
theorem EncodedLength.tcall6 : EncodedLength.Statement (.tcall6) := ⟨_, _, rfl, rfl⟩
theorem EncodedLength.set1Bit3 (dp : Byte) : EncodedLength.Statement (.set1Bit3 dp) := ⟨_, _, rfl, rfl⟩
theorem EncodedLength.bbsBit3 (dp : Byte) (rel : Byte) : EncodedLength.Statement (.bbsBit3 dp rel) := ⟨_, _, rfl, rfl⟩
theorem EncodedLength.cmpADp (dp : Byte) : EncodedLength.Statement (.cmpADp dp) := ⟨_, _, rfl, rfl⟩
theorem EncodedLength.cmpAAbs (m : Word) : EncodedLength.Statement (.cmpAAbs m) := ⟨_, _, rfl, rfl⟩
theorem EncodedLength.cmpAIndX : EncodedLength.Statement (.cmpAIndX) := ⟨_, _, rfl, rfl⟩
theorem EncodedLength.cmpADpXInd (dp : Byte) : EncodedLength.Statement (.cmpADpXInd dp) := ⟨_, _, rfl, rfl⟩
theorem EncodedLength.cmpAImm (imm : Byte) : EncodedLength.Statement (.cmpAImm imm) := ⟨_, _, rfl, rfl⟩
theorem EncodedLength.cmpDdSs (dd : Byte) (ss : Byte) : EncodedLength.Statement (.cmpDdSs dd ss) := ⟨_, _, rfl, rfl⟩
theorem EncodedLength.and1CNotMb (m : Word) (bit : Fin 8) : EncodedLength.Statement (.and1CNotMb m bit) := ⟨_, _, rfl, rfl⟩
theorem EncodedLength.rorDp (dp : Byte) : EncodedLength.Statement (.rorDp dp) := ⟨_, _, rfl, rfl⟩
theorem EncodedLength.rorAbs (m : Word) : EncodedLength.Statement (.rorAbs m) := ⟨_, _, rfl, rfl⟩
theorem EncodedLength.pushY : EncodedLength.Statement (.pushY) := ⟨_, _, rfl, rfl⟩
theorem EncodedLength.dbnzDp (dp : Byte) (rel : Byte) : EncodedLength.Statement (.dbnzDp dp rel) := ⟨_, _, rfl, rfl⟩
theorem EncodedLength.ret : EncodedLength.Statement (.ret) := ⟨_, _, rfl, rfl⟩
theorem EncodedLength.bvs (rel : Byte) : EncodedLength.Statement (.bvs rel) := ⟨_, _, rfl, rfl⟩
theorem EncodedLength.tcall7 : EncodedLength.Statement (.tcall7) := ⟨_, _, rfl, rfl⟩
theorem EncodedLength.clr1Bit3 (dp : Byte) : EncodedLength.Statement (.clr1Bit3 dp) := ⟨_, _, rfl, rfl⟩
theorem EncodedLength.bbcBit3 (dp : Byte) (rel : Byte) : EncodedLength.Statement (.bbcBit3 dp rel) := ⟨_, _, rfl, rfl⟩
theorem EncodedLength.cmpADpX (dp : Byte) : EncodedLength.Statement (.cmpADpX dp) := ⟨_, _, rfl, rfl⟩
theorem EncodedLength.cmpAAbsX (m : Word) : EncodedLength.Statement (.cmpAAbsX m) := ⟨_, _, rfl, rfl⟩
theorem EncodedLength.cmpAAbsY (m : Word) : EncodedLength.Statement (.cmpAAbsY m) := ⟨_, _, rfl, rfl⟩
theorem EncodedLength.cmpADpIndY (dp : Byte) : EncodedLength.Statement (.cmpADpIndY dp) := ⟨_, _, rfl, rfl⟩
theorem EncodedLength.cmpDpImm (dp : Byte) (imm : Byte) : EncodedLength.Statement (.cmpDpImm dp imm) := ⟨_, _, rfl, rfl⟩
theorem EncodedLength.cmpIndXIndY : EncodedLength.Statement (.cmpIndXIndY) := ⟨_, _, rfl, rfl⟩
theorem EncodedLength.addw (dp : Byte) : EncodedLength.Statement (.addw dp) := ⟨_, _, rfl, rfl⟩
theorem EncodedLength.rorDpX (dp : Byte) : EncodedLength.Statement (.rorDpX dp) := ⟨_, _, rfl, rfl⟩
theorem EncodedLength.rorA : EncodedLength.Statement (.rorA) := ⟨_, _, rfl, rfl⟩
theorem EncodedLength.movAX : EncodedLength.Statement (.movAX) := ⟨_, _, rfl, rfl⟩
theorem EncodedLength.cmpYDp (dp : Byte) : EncodedLength.Statement (.cmpYDp dp) := ⟨_, _, rfl, rfl⟩
theorem EncodedLength.reti : EncodedLength.Statement (.reti) := ⟨_, _, rfl, rfl⟩
theorem EncodedLength.setc : EncodedLength.Statement (.setc) := ⟨_, _, rfl, rfl⟩
theorem EncodedLength.tcall8 : EncodedLength.Statement (.tcall8) := ⟨_, _, rfl, rfl⟩
theorem EncodedLength.set1Bit4 (dp : Byte) : EncodedLength.Statement (.set1Bit4 dp) := ⟨_, _, rfl, rfl⟩
theorem EncodedLength.bbsBit4 (dp : Byte) (rel : Byte) : EncodedLength.Statement (.bbsBit4 dp rel) := ⟨_, _, rfl, rfl⟩
theorem EncodedLength.adcADp (dp : Byte) : EncodedLength.Statement (.adcADp dp) := ⟨_, _, rfl, rfl⟩
theorem EncodedLength.adcAAbs (m : Word) : EncodedLength.Statement (.adcAAbs m) := ⟨_, _, rfl, rfl⟩
theorem EncodedLength.adcAIndX : EncodedLength.Statement (.adcAIndX) := ⟨_, _, rfl, rfl⟩
theorem EncodedLength.adcADpXInd (dp : Byte) : EncodedLength.Statement (.adcADpXInd dp) := ⟨_, _, rfl, rfl⟩
theorem EncodedLength.adcAImm (imm : Byte) : EncodedLength.Statement (.adcAImm imm) := ⟨_, _, rfl, rfl⟩
theorem EncodedLength.adcDdSs (dd : Byte) (ss : Byte) : EncodedLength.Statement (.adcDdSs dd ss) := ⟨_, _, rfl, rfl⟩
theorem EncodedLength.eor1CMb (m : Word) (bit : Fin 8) : EncodedLength.Statement (.eor1CMb m bit) := ⟨_, _, rfl, rfl⟩
theorem EncodedLength.decDp (dp : Byte) : EncodedLength.Statement (.decDp dp) := ⟨_, _, rfl, rfl⟩
theorem EncodedLength.decAbs (m : Word) : EncodedLength.Statement (.decAbs m) := ⟨_, _, rfl, rfl⟩
theorem EncodedLength.movYImm (imm : Byte) : EncodedLength.Statement (.movYImm imm) := ⟨_, _, rfl, rfl⟩
theorem EncodedLength.popPsw : EncodedLength.Statement (.popPsw) := ⟨_, _, rfl, rfl⟩
theorem EncodedLength.movDpImm (dp : Byte) (imm : Byte) : EncodedLength.Statement (.movDpImm dp imm) := ⟨_, _, rfl, rfl⟩
theorem EncodedLength.bcc (rel : Byte) : EncodedLength.Statement (.bcc rel) := ⟨_, _, rfl, rfl⟩
theorem EncodedLength.tcall9 : EncodedLength.Statement (.tcall9) := ⟨_, _, rfl, rfl⟩
theorem EncodedLength.clr1Bit4 (dp : Byte) : EncodedLength.Statement (.clr1Bit4 dp) := ⟨_, _, rfl, rfl⟩
theorem EncodedLength.bbcBit4 (dp : Byte) (rel : Byte) : EncodedLength.Statement (.bbcBit4 dp rel) := ⟨_, _, rfl, rfl⟩
theorem EncodedLength.adcADpX (dp : Byte) : EncodedLength.Statement (.adcADpX dp) := ⟨_, _, rfl, rfl⟩
theorem EncodedLength.adcAAbsX (m : Word) : EncodedLength.Statement (.adcAAbsX m) := ⟨_, _, rfl, rfl⟩
theorem EncodedLength.adcAAbsY (m : Word) : EncodedLength.Statement (.adcAAbsY m) := ⟨_, _, rfl, rfl⟩
theorem EncodedLength.adcADpIndY (dp : Byte) : EncodedLength.Statement (.adcADpIndY dp) := ⟨_, _, rfl, rfl⟩
theorem EncodedLength.adcDpImm (dp : Byte) (imm : Byte) : EncodedLength.Statement (.adcDpImm dp imm) := ⟨_, _, rfl, rfl⟩
theorem EncodedLength.adcIndXIndY : EncodedLength.Statement (.adcIndXIndY) := ⟨_, _, rfl, rfl⟩
theorem EncodedLength.subw (dp : Byte) : EncodedLength.Statement (.subw dp) := ⟨_, _, rfl, rfl⟩
theorem EncodedLength.decDpX (dp : Byte) : EncodedLength.Statement (.decDpX dp) := ⟨_, _, rfl, rfl⟩
theorem EncodedLength.decA : EncodedLength.Statement (.decA) := ⟨_, _, rfl, rfl⟩
theorem EncodedLength.movXSp : EncodedLength.Statement (.movXSp) := ⟨_, _, rfl, rfl⟩
theorem EncodedLength.div : EncodedLength.Statement (.div) := ⟨_, _, rfl, rfl⟩
theorem EncodedLength.xcn : EncodedLength.Statement (.xcn) := ⟨_, _, rfl, rfl⟩
theorem EncodedLength.ei : EncodedLength.Statement (.ei) := ⟨_, _, rfl, rfl⟩
theorem EncodedLength.tcall10 : EncodedLength.Statement (.tcall10) := ⟨_, _, rfl, rfl⟩
theorem EncodedLength.set1Bit5 (dp : Byte) : EncodedLength.Statement (.set1Bit5 dp) := ⟨_, _, rfl, rfl⟩
theorem EncodedLength.bbsBit5 (dp : Byte) (rel : Byte) : EncodedLength.Statement (.bbsBit5 dp rel) := ⟨_, _, rfl, rfl⟩
theorem EncodedLength.sbcADp (dp : Byte) : EncodedLength.Statement (.sbcADp dp) := ⟨_, _, rfl, rfl⟩
theorem EncodedLength.sbcAAbs (m : Word) : EncodedLength.Statement (.sbcAAbs m) := ⟨_, _, rfl, rfl⟩
theorem EncodedLength.sbcAIndX : EncodedLength.Statement (.sbcAIndX) := ⟨_, _, rfl, rfl⟩
theorem EncodedLength.sbcADpXInd (dp : Byte) : EncodedLength.Statement (.sbcADpXInd dp) := ⟨_, _, rfl, rfl⟩
theorem EncodedLength.sbcAImm (imm : Byte) : EncodedLength.Statement (.sbcAImm imm) := ⟨_, _, rfl, rfl⟩
theorem EncodedLength.sbcDdSs (dd : Byte) (ss : Byte) : EncodedLength.Statement (.sbcDdSs dd ss) := ⟨_, _, rfl, rfl⟩
theorem EncodedLength.mov1CMb (m : Word) (bit : Fin 8) : EncodedLength.Statement (.mov1CMb m bit) := ⟨_, _, rfl, rfl⟩
theorem EncodedLength.incDp (dp : Byte) : EncodedLength.Statement (.incDp dp) := ⟨_, _, rfl, rfl⟩
theorem EncodedLength.incAbs (m : Word) : EncodedLength.Statement (.incAbs m) := ⟨_, _, rfl, rfl⟩
theorem EncodedLength.cmpYImm (imm : Byte) : EncodedLength.Statement (.cmpYImm imm) := ⟨_, _, rfl, rfl⟩
theorem EncodedLength.popA : EncodedLength.Statement (.popA) := ⟨_, _, rfl, rfl⟩
theorem EncodedLength.movIndXIncFromA : EncodedLength.Statement (.movIndXIncFromA) := ⟨_, _, rfl, rfl⟩
theorem EncodedLength.bcs (rel : Byte) : EncodedLength.Statement (.bcs rel) := ⟨_, _, rfl, rfl⟩
theorem EncodedLength.tcall11 : EncodedLength.Statement (.tcall11) := ⟨_, _, rfl, rfl⟩
theorem EncodedLength.clr1Bit5 (dp : Byte) : EncodedLength.Statement (.clr1Bit5 dp) := ⟨_, _, rfl, rfl⟩
theorem EncodedLength.bbcBit5 (dp : Byte) (rel : Byte) : EncodedLength.Statement (.bbcBit5 dp rel) := ⟨_, _, rfl, rfl⟩
theorem EncodedLength.sbcADpX (dp : Byte) : EncodedLength.Statement (.sbcADpX dp) := ⟨_, _, rfl, rfl⟩
theorem EncodedLength.sbcAAbsX (m : Word) : EncodedLength.Statement (.sbcAAbsX m) := ⟨_, _, rfl, rfl⟩
theorem EncodedLength.sbcAAbsY (m : Word) : EncodedLength.Statement (.sbcAAbsY m) := ⟨_, _, rfl, rfl⟩
theorem EncodedLength.sbcADpIndY (dp : Byte) : EncodedLength.Statement (.sbcADpIndY dp) := ⟨_, _, rfl, rfl⟩
theorem EncodedLength.sbcDpImm (dp : Byte) (imm : Byte) : EncodedLength.Statement (.sbcDpImm dp imm) := ⟨_, _, rfl, rfl⟩
theorem EncodedLength.sbcIndXIndY : EncodedLength.Statement (.sbcIndXIndY) := ⟨_, _, rfl, rfl⟩
theorem EncodedLength.movwYaDp (dp : Byte) : EncodedLength.Statement (.movwYaDp dp) := ⟨_, _, rfl, rfl⟩
theorem EncodedLength.incDpX (dp : Byte) : EncodedLength.Statement (.incDpX dp) := ⟨_, _, rfl, rfl⟩
theorem EncodedLength.incA : EncodedLength.Statement (.incA) := ⟨_, _, rfl, rfl⟩
theorem EncodedLength.movSpX : EncodedLength.Statement (.movSpX) := ⟨_, _, rfl, rfl⟩
theorem EncodedLength.das : EncodedLength.Statement (.das) := ⟨_, _, rfl, rfl⟩
theorem EncodedLength.movAIndXInc : EncodedLength.Statement (.movAIndXInc) := ⟨_, _, rfl, rfl⟩
theorem EncodedLength.di : EncodedLength.Statement (.di) := ⟨_, _, rfl, rfl⟩
theorem EncodedLength.tcall12 : EncodedLength.Statement (.tcall12) := ⟨_, _, rfl, rfl⟩
theorem EncodedLength.set1Bit6 (dp : Byte) : EncodedLength.Statement (.set1Bit6 dp) := ⟨_, _, rfl, rfl⟩
theorem EncodedLength.bbsBit6 (dp : Byte) (rel : Byte) : EncodedLength.Statement (.bbsBit6 dp rel) := ⟨_, _, rfl, rfl⟩
theorem EncodedLength.movDpFromA (dp : Byte) : EncodedLength.Statement (.movDpFromA dp) := ⟨_, _, rfl, rfl⟩
theorem EncodedLength.movAbsFromA (m : Word) : EncodedLength.Statement (.movAbsFromA m) := ⟨_, _, rfl, rfl⟩
theorem EncodedLength.movIndXFromA : EncodedLength.Statement (.movIndXFromA) := ⟨_, _, rfl, rfl⟩
theorem EncodedLength.movDpXIndFromA (dp : Byte) : EncodedLength.Statement (.movDpXIndFromA dp) := ⟨_, _, rfl, rfl⟩
theorem EncodedLength.cmpXImm (imm : Byte) : EncodedLength.Statement (.cmpXImm imm) := ⟨_, _, rfl, rfl⟩
theorem EncodedLength.movAbsFromX (m : Word) : EncodedLength.Statement (.movAbsFromX m) := ⟨_, _, rfl, rfl⟩
theorem EncodedLength.mov1MbFromC (m : Word) (bit : Fin 8) : EncodedLength.Statement (.mov1MbFromC m bit) := ⟨_, _, rfl, rfl⟩
theorem EncodedLength.movDpFromY (dp : Byte) : EncodedLength.Statement (.movDpFromY dp) := ⟨_, _, rfl, rfl⟩
theorem EncodedLength.movAbsFromY (m : Word) : EncodedLength.Statement (.movAbsFromY m) := ⟨_, _, rfl, rfl⟩
theorem EncodedLength.movXImm (imm : Byte) : EncodedLength.Statement (.movXImm imm) := ⟨_, _, rfl, rfl⟩
theorem EncodedLength.popX : EncodedLength.Statement (.popX) := ⟨_, _, rfl, rfl⟩
theorem EncodedLength.mul : EncodedLength.Statement (.mul) := ⟨_, _, rfl, rfl⟩
theorem EncodedLength.bne (rel : Byte) : EncodedLength.Statement (.bne rel) := ⟨_, _, rfl, rfl⟩
theorem EncodedLength.tcall13 : EncodedLength.Statement (.tcall13) := ⟨_, _, rfl, rfl⟩
theorem EncodedLength.clr1Bit6 (dp : Byte) : EncodedLength.Statement (.clr1Bit6 dp) := ⟨_, _, rfl, rfl⟩
theorem EncodedLength.bbcBit6 (dp : Byte) (rel : Byte) : EncodedLength.Statement (.bbcBit6 dp rel) := ⟨_, _, rfl, rfl⟩
theorem EncodedLength.movDpXFromA (dp : Byte) : EncodedLength.Statement (.movDpXFromA dp) := ⟨_, _, rfl, rfl⟩
theorem EncodedLength.movAbsXFromA (m : Word) : EncodedLength.Statement (.movAbsXFromA m) := ⟨_, _, rfl, rfl⟩
theorem EncodedLength.movAbsYFromA (m : Word) : EncodedLength.Statement (.movAbsYFromA m) := ⟨_, _, rfl, rfl⟩
theorem EncodedLength.movDpIndYFromA (dp : Byte) : EncodedLength.Statement (.movDpIndYFromA dp) := ⟨_, _, rfl, rfl⟩
theorem EncodedLength.movDpFromX (dp : Byte) : EncodedLength.Statement (.movDpFromX dp) := ⟨_, _, rfl, rfl⟩
theorem EncodedLength.movDpYFromX (dp : Byte) : EncodedLength.Statement (.movDpYFromX dp) := ⟨_, _, rfl, rfl⟩
theorem EncodedLength.movwDpYa (dp : Byte) : EncodedLength.Statement (.movwDpYa dp) := ⟨_, _, rfl, rfl⟩
theorem EncodedLength.movDpXFromY (dp : Byte) : EncodedLength.Statement (.movDpXFromY dp) := ⟨_, _, rfl, rfl⟩
theorem EncodedLength.decY : EncodedLength.Statement (.decY) := ⟨_, _, rfl, rfl⟩
theorem EncodedLength.movAY : EncodedLength.Statement (.movAY) := ⟨_, _, rfl, rfl⟩
theorem EncodedLength.cbneDpX (dp : Byte) (rel : Byte) : EncodedLength.Statement (.cbneDpX dp rel) := ⟨_, _, rfl, rfl⟩
theorem EncodedLength.daa : EncodedLength.Statement (.daa) := ⟨_, _, rfl, rfl⟩
theorem EncodedLength.clrv : EncodedLength.Statement (.clrv) := ⟨_, _, rfl, rfl⟩
theorem EncodedLength.tcall14 : EncodedLength.Statement (.tcall14) := ⟨_, _, rfl, rfl⟩
theorem EncodedLength.set1Bit7 (dp : Byte) : EncodedLength.Statement (.set1Bit7 dp) := ⟨_, _, rfl, rfl⟩
theorem EncodedLength.bbsBit7 (dp : Byte) (rel : Byte) : EncodedLength.Statement (.bbsBit7 dp rel) := ⟨_, _, rfl, rfl⟩
theorem EncodedLength.movADp (dp : Byte) : EncodedLength.Statement (.movADp dp) := ⟨_, _, rfl, rfl⟩
theorem EncodedLength.movAAbs (m : Word) : EncodedLength.Statement (.movAAbs m) := ⟨_, _, rfl, rfl⟩
theorem EncodedLength.movAIndX : EncodedLength.Statement (.movAIndX) := ⟨_, _, rfl, rfl⟩
theorem EncodedLength.movADpXInd (dp : Byte) : EncodedLength.Statement (.movADpXInd dp) := ⟨_, _, rfl, rfl⟩
theorem EncodedLength.movAImm (imm : Byte) : EncodedLength.Statement (.movAImm imm) := ⟨_, _, rfl, rfl⟩
theorem EncodedLength.movXAbs (m : Word) : EncodedLength.Statement (.movXAbs m) := ⟨_, _, rfl, rfl⟩
theorem EncodedLength.not1 (m : Word) (bit : Fin 8) : EncodedLength.Statement (.not1 m bit) := ⟨_, _, rfl, rfl⟩
theorem EncodedLength.movYDp (dp : Byte) : EncodedLength.Statement (.movYDp dp) := ⟨_, _, rfl, rfl⟩
theorem EncodedLength.movYAbs (m : Word) : EncodedLength.Statement (.movYAbs m) := ⟨_, _, rfl, rfl⟩
theorem EncodedLength.notc : EncodedLength.Statement (.notc) := ⟨_, _, rfl, rfl⟩
theorem EncodedLength.popY : EncodedLength.Statement (.popY) := ⟨_, _, rfl, rfl⟩
theorem EncodedLength.sleep : EncodedLength.Statement (.sleep) := ⟨_, _, rfl, rfl⟩
theorem EncodedLength.beq (rel : Byte) : EncodedLength.Statement (.beq rel) := ⟨_, _, rfl, rfl⟩
theorem EncodedLength.tcall15 : EncodedLength.Statement (.tcall15) := ⟨_, _, rfl, rfl⟩
theorem EncodedLength.clr1Bit7 (dp : Byte) : EncodedLength.Statement (.clr1Bit7 dp) := ⟨_, _, rfl, rfl⟩
theorem EncodedLength.bbcBit7 (dp : Byte) (rel : Byte) : EncodedLength.Statement (.bbcBit7 dp rel) := ⟨_, _, rfl, rfl⟩
theorem EncodedLength.movADpX (dp : Byte) : EncodedLength.Statement (.movADpX dp) := ⟨_, _, rfl, rfl⟩
theorem EncodedLength.movAAbsX (m : Word) : EncodedLength.Statement (.movAAbsX m) := ⟨_, _, rfl, rfl⟩
theorem EncodedLength.movAAbsY (m : Word) : EncodedLength.Statement (.movAAbsY m) := ⟨_, _, rfl, rfl⟩
theorem EncodedLength.movADpIndY (dp : Byte) : EncodedLength.Statement (.movADpIndY dp) := ⟨_, _, rfl, rfl⟩
theorem EncodedLength.movXDp (dp : Byte) : EncodedLength.Statement (.movXDp dp) := ⟨_, _, rfl, rfl⟩
theorem EncodedLength.movXDpY (dp : Byte) : EncodedLength.Statement (.movXDpY dp) := ⟨_, _, rfl, rfl⟩
theorem EncodedLength.movDdSs (dd : Byte) (ss : Byte) : EncodedLength.Statement (.movDdSs dd ss) := ⟨_, _, rfl, rfl⟩
theorem EncodedLength.movYDpX (dp : Byte) : EncodedLength.Statement (.movYDpX dp) := ⟨_, _, rfl, rfl⟩
theorem EncodedLength.incY : EncodedLength.Statement (.incY) := ⟨_, _, rfl, rfl⟩
theorem EncodedLength.movYA : EncodedLength.Statement (.movYA) := ⟨_, _, rfl, rfl⟩
theorem EncodedLength.dbnzY (rel : Byte) : EncodedLength.Statement (.dbnzY rel) := ⟨_, _, rfl, rfl⟩
theorem EncodedLength.stop : EncodedLength.Statement (.stop) := ⟨_, _, rfl, rfl⟩

end Sys2Proof.Laws
end

