-- ==== Sys2Proof/Tests/Slice0.lean ====
section
/-! SUPPORT. Tests/Slice0.lean: tests of well-formedness and of decoding, a few single steps with the results the spec's own
vectors give (95_test_vectors.md, Part 2), and for each statement with hypotheses a state and operands that meet them. -/

namespace Sys2Proof.Tests

open Sys2Proof.Machine

/-! ### Well-formedness: an address of 14 bits has no encoding (R500) -/

theorem test_ill_formed_or1 : (Instr.or1CMb 0x2000 0).wellFormed = false := by decide
theorem test_ill_formed_or1_not : (Instr.or1CNotMb 0x2000 0).wellFormed = false := by decide
theorem test_ill_formed_and1 : (Instr.and1CMb 0x2000 0).wellFormed = false := by decide
theorem test_ill_formed_and1_not : (Instr.and1CNotMb 0x2000 0).wellFormed = false := by decide
theorem test_ill_formed_eor1 : (Instr.eor1CMb 0x2000 0).wellFormed = false := by decide
theorem test_ill_formed_mov1 : (Instr.mov1CMb 0xFFFF 7).wellFormed = false := by decide
theorem test_ill_formed_mov1_store : (Instr.mov1MbFromC 0x2000 0).wellFormed = false := by decide
theorem test_ill_formed_not1 : (Instr.not1 0x4001 0).wellFormed = false := by decide

/-- DecodeEncode's hypothesis at the highest address of a memory-bit operand. -/
theorem witness_decodeEncode : (Instr.not1 0x1FFF 7).WellFormed ∧ (Instr.jmpAbs 0xFFFF).WellFormed := ⟨rfl, rfl⟩

/-! ### Decoding: every opcode's word, written out from the formats of R152 -/

/-- Each word decodes to its instruction with nothing left over, and the instruction encodes to the word. -/
def wordsDecode (l : List (List Byte × Instr)) : Bool :=
  l.all fun p => decide (decode p.1 = .ok (p.2, []) ∧ encode p.2 = p.1)

/-- The words of opcodes 0x00-0x0F (R152, R158). -/
theorem test_decode_row0 : wordsDecode [
    ⟨[0x00], .nop⟩, ⟨[0x01], .tcall0⟩,
    ⟨[0x02, 0x34], .set1Bit0 0x34⟩, ⟨[0x03, 0x34, 0x92], .bbsBit0 0x34 0x92⟩,
    ⟨[0x04, 0x34], .orADp 0x34⟩, ⟨[0x05, 0x34, 0x92], .orAAbs 0x9234⟩,
    ⟨[0x06], .orAIndX⟩, ⟨[0x07, 0x34], .orADpXInd 0x34⟩,
    ⟨[0x08, 0x34], .orAImm 0x34⟩, ⟨[0x09, 0x34, 0x92], .orDdSs 0x92 0x34⟩,
    ⟨[0x0A, 0x34, 0xB2], .or1CMb 0x1234 5⟩, ⟨[0x0B, 0x34], .aslDp 0x34⟩,
    ⟨[0x0C, 0x34, 0x92], .aslAbs 0x9234⟩, ⟨[0x0D], .pushPsw⟩,
    ⟨[0x0E, 0x34, 0x92], .tset1 0x9234⟩, ⟨[0x0F], .brk⟩] = true := by decide

/-- The words of opcodes 0x10-0x1F (R152, R158). -/
theorem test_decode_row1 : wordsDecode [
    ⟨[0x10, 0x34], .bpl 0x34⟩, ⟨[0x11], .tcall1⟩,
    ⟨[0x12, 0x34], .clr1Bit0 0x34⟩, ⟨[0x13, 0x34, 0x92], .bbcBit0 0x34 0x92⟩,
    ⟨[0x14, 0x34], .orADpX 0x34⟩, ⟨[0x15, 0x34, 0x92], .orAAbsX 0x9234⟩,
    ⟨[0x16, 0x34, 0x92], .orAAbsY 0x9234⟩, ⟨[0x17, 0x34], .orADpIndY 0x34⟩,
    ⟨[0x18, 0x34, 0x92], .orDpImm 0x92 0x34⟩, ⟨[0x19], .orIndXIndY⟩,
    ⟨[0x1A, 0x34], .decw 0x34⟩, ⟨[0x1B, 0x34], .aslDpX 0x34⟩,
    ⟨[0x1C], .aslA⟩, ⟨[0x1D], .decX⟩,
    ⟨[0x1E, 0x34, 0x92], .cmpXAbs 0x9234⟩, ⟨[0x1F, 0x34, 0x92], .jmpAbsXInd 0x9234⟩] = true := by decide

/-- The words of opcodes 0x20-0x2F (R152, R158). -/
theorem test_decode_row2 : wordsDecode [
    ⟨[0x20], .clrp⟩, ⟨[0x21], .tcall2⟩,
    ⟨[0x22, 0x34], .set1Bit1 0x34⟩, ⟨[0x23, 0x34, 0x92], .bbsBit1 0x34 0x92⟩,
    ⟨[0x24, 0x34], .andADp 0x34⟩, ⟨[0x25, 0x34, 0x92], .andAAbs 0x9234⟩,
    ⟨[0x26], .andAIndX⟩, ⟨[0x27, 0x34], .andADpXInd 0x34⟩,
    ⟨[0x28, 0x34], .andAImm 0x34⟩, ⟨[0x29, 0x34, 0x92], .andDdSs 0x92 0x34⟩,
    ⟨[0x2A, 0x34, 0xB2], .or1CNotMb 0x1234 5⟩, ⟨[0x2B, 0x34], .rolDp 0x34⟩,
    ⟨[0x2C, 0x34, 0x92], .rolAbs 0x9234⟩, ⟨[0x2D], .pushA⟩,
    ⟨[0x2E, 0x34, 0x92], .cbneDp 0x34 0x92⟩, ⟨[0x2F, 0x34], .bra 0x34⟩] = true := by decide

/-- The words of opcodes 0x30-0x3F (R152, R158). -/
theorem test_decode_row3 : wordsDecode [
    ⟨[0x30, 0x34], .bmi 0x34⟩, ⟨[0x31], .tcall3⟩,
    ⟨[0x32, 0x34], .clr1Bit1 0x34⟩, ⟨[0x33, 0x34, 0x92], .bbcBit1 0x34 0x92⟩,
    ⟨[0x34, 0x34], .andADpX 0x34⟩, ⟨[0x35, 0x34, 0x92], .andAAbsX 0x9234⟩,
    ⟨[0x36, 0x34, 0x92], .andAAbsY 0x9234⟩, ⟨[0x37, 0x34], .andADpIndY 0x34⟩,
    ⟨[0x38, 0x34, 0x92], .andDpImm 0x92 0x34⟩, ⟨[0x39], .andIndXIndY⟩,
    ⟨[0x3A, 0x34], .incw 0x34⟩, ⟨[0x3B, 0x34], .rolDpX 0x34⟩,
    ⟨[0x3C], .rolA⟩, ⟨[0x3D], .incX⟩,
    ⟨[0x3E, 0x34], .cmpXDp 0x34⟩, ⟨[0x3F, 0x34, 0x92], .call 0x9234⟩] = true := by decide

/-- The words of opcodes 0x40-0x4F (R152, R158). -/
theorem test_decode_row4 : wordsDecode [
    ⟨[0x40], .setp⟩, ⟨[0x41], .tcall4⟩,
    ⟨[0x42, 0x34], .set1Bit2 0x34⟩, ⟨[0x43, 0x34, 0x92], .bbsBit2 0x34 0x92⟩,
    ⟨[0x44, 0x34], .eorADp 0x34⟩, ⟨[0x45, 0x34, 0x92], .eorAAbs 0x9234⟩,
    ⟨[0x46], .eorAIndX⟩, ⟨[0x47, 0x34], .eorADpXInd 0x34⟩,
    ⟨[0x48, 0x34], .eorAImm 0x34⟩, ⟨[0x49, 0x34, 0x92], .eorDdSs 0x92 0x34⟩,
    ⟨[0x4A, 0x34, 0xB2], .and1CMb 0x1234 5⟩, ⟨[0x4B, 0x34], .lsrDp 0x34⟩,
    ⟨[0x4C, 0x34, 0x92], .lsrAbs 0x9234⟩, ⟨[0x4D], .pushX⟩,
    ⟨[0x4E, 0x34, 0x92], .tclr1 0x9234⟩, ⟨[0x4F, 0x34], .pcall 0x34⟩] = true := by decide

/-- The words of opcodes 0x50-0x5F (R152, R158). -/
theorem test_decode_row5 : wordsDecode [
    ⟨[0x50, 0x34], .bvc 0x34⟩, ⟨[0x51], .tcall5⟩,
    ⟨[0x52, 0x34], .clr1Bit2 0x34⟩, ⟨[0x53, 0x34, 0x92], .bbcBit2 0x34 0x92⟩,
    ⟨[0x54, 0x34], .eorADpX 0x34⟩, ⟨[0x55, 0x34, 0x92], .eorAAbsX 0x9234⟩,
    ⟨[0x56, 0x34, 0x92], .eorAAbsY 0x9234⟩, ⟨[0x57, 0x34], .eorADpIndY 0x34⟩,
    ⟨[0x58, 0x34, 0x92], .eorDpImm 0x92 0x34⟩, ⟨[0x59], .eorIndXIndY⟩,
    ⟨[0x5A, 0x34], .cmpw 0x34⟩, ⟨[0x5B, 0x34], .lsrDpX 0x34⟩,
    ⟨[0x5C], .lsrA⟩, ⟨[0x5D], .movXA⟩,
    ⟨[0x5E, 0x34, 0x92], .cmpYAbs 0x9234⟩, ⟨[0x5F, 0x34, 0x92], .jmpAbs 0x9234⟩] = true := by decide

/-- The words of opcodes 0x60-0x6F (R152, R158). -/
theorem test_decode_row6 : wordsDecode [
    ⟨[0x60], .clrc⟩, ⟨[0x61], .tcall6⟩,
    ⟨[0x62, 0x34], .set1Bit3 0x34⟩, ⟨[0x63, 0x34, 0x92], .bbsBit3 0x34 0x92⟩,
    ⟨[0x64, 0x34], .cmpADp 0x34⟩, ⟨[0x65, 0x34, 0x92], .cmpAAbs 0x9234⟩,
    ⟨[0x66], .cmpAIndX⟩, ⟨[0x67, 0x34], .cmpADpXInd 0x34⟩,
    ⟨[0x68, 0x34], .cmpAImm 0x34⟩, ⟨[0x69, 0x34, 0x92], .cmpDdSs 0x92 0x34⟩,
    ⟨[0x6A, 0x34, 0xB2], .and1CNotMb 0x1234 5⟩, ⟨[0x6B, 0x34], .rorDp 0x34⟩,
    ⟨[0x6C, 0x34, 0x92], .rorAbs 0x9234⟩, ⟨[0x6D], .pushY⟩,
    ⟨[0x6E, 0x34, 0x92], .dbnzDp 0x34 0x92⟩, ⟨[0x6F], .ret⟩] = true := by decide

/-- The words of opcodes 0x70-0x7F (R152, R158). -/
theorem test_decode_row7 : wordsDecode [
    ⟨[0x70, 0x34], .bvs 0x34⟩, ⟨[0x71], .tcall7⟩,
    ⟨[0x72, 0x34], .clr1Bit3 0x34⟩, ⟨[0x73, 0x34, 0x92], .bbcBit3 0x34 0x92⟩,
    ⟨[0x74, 0x34], .cmpADpX 0x34⟩, ⟨[0x75, 0x34, 0x92], .cmpAAbsX 0x9234⟩,
    ⟨[0x76, 0x34, 0x92], .cmpAAbsY 0x9234⟩, ⟨[0x77, 0x34], .cmpADpIndY 0x34⟩,
    ⟨[0x78, 0x34, 0x92], .cmpDpImm 0x92 0x34⟩, ⟨[0x79], .cmpIndXIndY⟩,
    ⟨[0x7A, 0x34], .addw 0x34⟩, ⟨[0x7B, 0x34], .rorDpX 0x34⟩,
    ⟨[0x7C], .rorA⟩, ⟨[0x7D], .movAX⟩,
    ⟨[0x7E, 0x34], .cmpYDp 0x34⟩, ⟨[0x7F], .reti⟩] = true := by decide

/-- The words of opcodes 0x80-0x8F (R152, R158). -/
theorem test_decode_row8 : wordsDecode [
    ⟨[0x80], .setc⟩, ⟨[0x81], .tcall8⟩,
    ⟨[0x82, 0x34], .set1Bit4 0x34⟩, ⟨[0x83, 0x34, 0x92], .bbsBit4 0x34 0x92⟩,
    ⟨[0x84, 0x34], .adcADp 0x34⟩, ⟨[0x85, 0x34, 0x92], .adcAAbs 0x9234⟩,
    ⟨[0x86], .adcAIndX⟩, ⟨[0x87, 0x34], .adcADpXInd 0x34⟩,
    ⟨[0x88, 0x34], .adcAImm 0x34⟩, ⟨[0x89, 0x34, 0x92], .adcDdSs 0x92 0x34⟩,
    ⟨[0x8A, 0x34, 0xB2], .eor1CMb 0x1234 5⟩, ⟨[0x8B, 0x34], .decDp 0x34⟩,
    ⟨[0x8C, 0x34, 0x92], .decAbs 0x9234⟩, ⟨[0x8D, 0x34], .movYImm 0x34⟩,
    ⟨[0x8E], .popPsw⟩, ⟨[0x8F, 0x34, 0x92], .movDpImm 0x92 0x34⟩] = true := by decide

/-- The words of opcodes 0x90-0x9F (R152, R158). -/
theorem test_decode_row9 : wordsDecode [
    ⟨[0x90, 0x34], .bcc 0x34⟩, ⟨[0x91], .tcall9⟩,
    ⟨[0x92, 0x34], .clr1Bit4 0x34⟩, ⟨[0x93, 0x34, 0x92], .bbcBit4 0x34 0x92⟩,
    ⟨[0x94, 0x34], .adcADpX 0x34⟩, ⟨[0x95, 0x34, 0x92], .adcAAbsX 0x9234⟩,
    ⟨[0x96, 0x34, 0x92], .adcAAbsY 0x9234⟩, ⟨[0x97, 0x34], .adcADpIndY 0x34⟩,
    ⟨[0x98, 0x34, 0x92], .adcDpImm 0x92 0x34⟩, ⟨[0x99], .adcIndXIndY⟩,
    ⟨[0x9A, 0x34], .subw 0x34⟩, ⟨[0x9B, 0x34], .decDpX 0x34⟩,
    ⟨[0x9C], .decA⟩, ⟨[0x9D], .movXSp⟩,
    ⟨[0x9E], .div⟩, ⟨[0x9F], .xcn⟩] = true := by decide

/-- The words of opcodes 0xA0-0xAF (R152, R158). -/
theorem test_decode_rowA : wordsDecode [
    ⟨[0xA0], .ei⟩, ⟨[0xA1], .tcall10⟩,
    ⟨[0xA2, 0x34], .set1Bit5 0x34⟩, ⟨[0xA3, 0x34, 0x92], .bbsBit5 0x34 0x92⟩,
    ⟨[0xA4, 0x34], .sbcADp 0x34⟩, ⟨[0xA5, 0x34, 0x92], .sbcAAbs 0x9234⟩,
    ⟨[0xA6], .sbcAIndX⟩, ⟨[0xA7, 0x34], .sbcADpXInd 0x34⟩,
    ⟨[0xA8, 0x34], .sbcAImm 0x34⟩, ⟨[0xA9, 0x34, 0x92], .sbcDdSs 0x92 0x34⟩,
    ⟨[0xAA, 0x34, 0xB2], .mov1CMb 0x1234 5⟩, ⟨[0xAB, 0x34], .incDp 0x34⟩,
    ⟨[0xAC, 0x34, 0x92], .incAbs 0x9234⟩, ⟨[0xAD, 0x34], .cmpYImm 0x34⟩,
    ⟨[0xAE], .popA⟩, ⟨[0xAF], .movIndXIncFromA⟩] = true := by decide

/-- The words of opcodes 0xB0-0xBF (R152, R158). -/
theorem test_decode_rowB : wordsDecode [
    ⟨[0xB0, 0x34], .bcs 0x34⟩, ⟨[0xB1], .tcall11⟩,
    ⟨[0xB2, 0x34], .clr1Bit5 0x34⟩, ⟨[0xB3, 0x34, 0x92], .bbcBit5 0x34 0x92⟩,
    ⟨[0xB4, 0x34], .sbcADpX 0x34⟩, ⟨[0xB5, 0x34, 0x92], .sbcAAbsX 0x9234⟩,
    ⟨[0xB6, 0x34, 0x92], .sbcAAbsY 0x9234⟩, ⟨[0xB7, 0x34], .sbcADpIndY 0x34⟩,
    ⟨[0xB8, 0x34, 0x92], .sbcDpImm 0x92 0x34⟩, ⟨[0xB9], .sbcIndXIndY⟩,
    ⟨[0xBA, 0x34], .movwYaDp 0x34⟩, ⟨[0xBB, 0x34], .incDpX 0x34⟩,
    ⟨[0xBC], .incA⟩, ⟨[0xBD], .movSpX⟩,
    ⟨[0xBE], .das⟩, ⟨[0xBF], .movAIndXInc⟩] = true := by decide

/-- The words of opcodes 0xC0-0xCF (R152, R158). -/
theorem test_decode_rowC : wordsDecode [
    ⟨[0xC0], .di⟩, ⟨[0xC1], .tcall12⟩,
    ⟨[0xC2, 0x34], .set1Bit6 0x34⟩, ⟨[0xC3, 0x34, 0x92], .bbsBit6 0x34 0x92⟩,
    ⟨[0xC4, 0x34], .movDpFromA 0x34⟩, ⟨[0xC5, 0x34, 0x92], .movAbsFromA 0x9234⟩,
    ⟨[0xC6], .movIndXFromA⟩, ⟨[0xC7, 0x34], .movDpXIndFromA 0x34⟩,
    ⟨[0xC8, 0x34], .cmpXImm 0x34⟩, ⟨[0xC9, 0x34, 0x92], .movAbsFromX 0x9234⟩,
    ⟨[0xCA, 0x34, 0xB2], .mov1MbFromC 0x1234 5⟩, ⟨[0xCB, 0x34], .movDpFromY 0x34⟩,
    ⟨[0xCC, 0x34, 0x92], .movAbsFromY 0x9234⟩, ⟨[0xCD, 0x34], .movXImm 0x34⟩,
    ⟨[0xCE], .popX⟩, ⟨[0xCF], .mul⟩] = true := by decide

/-- The words of opcodes 0xD0-0xDF (R152, R158). -/
theorem test_decode_rowD : wordsDecode [
    ⟨[0xD0, 0x34], .bne 0x34⟩, ⟨[0xD1], .tcall13⟩,
    ⟨[0xD2, 0x34], .clr1Bit6 0x34⟩, ⟨[0xD3, 0x34, 0x92], .bbcBit6 0x34 0x92⟩,
    ⟨[0xD4, 0x34], .movDpXFromA 0x34⟩, ⟨[0xD5, 0x34, 0x92], .movAbsXFromA 0x9234⟩,
    ⟨[0xD6, 0x34, 0x92], .movAbsYFromA 0x9234⟩, ⟨[0xD7, 0x34], .movDpIndYFromA 0x34⟩,
    ⟨[0xD8, 0x34], .movDpFromX 0x34⟩, ⟨[0xD9, 0x34], .movDpYFromX 0x34⟩,
    ⟨[0xDA, 0x34], .movwDpYa 0x34⟩, ⟨[0xDB, 0x34], .movDpXFromY 0x34⟩,
    ⟨[0xDC], .decY⟩, ⟨[0xDD], .movAY⟩,
    ⟨[0xDE, 0x34, 0x92], .cbneDpX 0x34 0x92⟩, ⟨[0xDF], .daa⟩] = true := by decide

/-- The words of opcodes 0xE0-0xEF (R152, R158). -/
theorem test_decode_rowE : wordsDecode [
    ⟨[0xE0], .clrv⟩, ⟨[0xE1], .tcall14⟩,
    ⟨[0xE2, 0x34], .set1Bit7 0x34⟩, ⟨[0xE3, 0x34, 0x92], .bbsBit7 0x34 0x92⟩,
    ⟨[0xE4, 0x34], .movADp 0x34⟩, ⟨[0xE5, 0x34, 0x92], .movAAbs 0x9234⟩,
    ⟨[0xE6], .movAIndX⟩, ⟨[0xE7, 0x34], .movADpXInd 0x34⟩,
    ⟨[0xE8, 0x34], .movAImm 0x34⟩, ⟨[0xE9, 0x34, 0x92], .movXAbs 0x9234⟩,
    ⟨[0xEA, 0x34, 0xB2], .not1 0x1234 5⟩, ⟨[0xEB, 0x34], .movYDp 0x34⟩,
    ⟨[0xEC, 0x34, 0x92], .movYAbs 0x9234⟩, ⟨[0xED], .notc⟩,
    ⟨[0xEE], .popY⟩, ⟨[0xEF], .sleep⟩] = true := by decide

/-- The words of opcodes 0xF0-0xFF (R152, R158). -/
theorem test_decode_rowF : wordsDecode [
    ⟨[0xF0, 0x34], .beq 0x34⟩, ⟨[0xF1], .tcall15⟩,
    ⟨[0xF2, 0x34], .clr1Bit7 0x34⟩, ⟨[0xF3, 0x34, 0x92], .bbcBit7 0x34 0x92⟩,
    ⟨[0xF4, 0x34], .movADpX 0x34⟩, ⟨[0xF5, 0x34, 0x92], .movAAbsX 0x9234⟩,
    ⟨[0xF6, 0x34, 0x92], .movAAbsY 0x9234⟩, ⟨[0xF7, 0x34], .movADpIndY 0x34⟩,
    ⟨[0xF8, 0x34], .movXDp 0x34⟩, ⟨[0xF9, 0x34], .movXDpY 0x34⟩,
    ⟨[0xFA, 0x34, 0x92], .movDdSs 0x92 0x34⟩, ⟨[0xFB, 0x34], .movYDpX 0x34⟩,
    ⟨[0xFC], .incY⟩, ⟨[0xFD], .movYA⟩,
    ⟨[0xFE, 0x34], .dbnzY 0x34⟩, ⟨[0xFF], .stop⟩] = true := by decide
/-- R152: bits 7:5 of the third byte of a memory-bit form are the bit number, and bits 4:0 the top of the address. -/
theorem test_memory_bit_fields : decode [0xEA, 0xFF, 0xFF] = .ok (.not1 0x1FFF 7, []) ∧
    decode [0xEA, 0x00, 0x20] = .ok (.not1 0x0000 1, []) := by decide

/-- R151: a missing operand byte is refused by name; the bytes after an instruction are left over. -/
theorem test_decode_truncated : decode [0x5F, 0x34] = .error (.truncated 0x5F) ∧ decode [] = .error .noBytes ∧
    decode [0x00, 0x5F] = .ok (.nop, [0x5F]) := by decide

/-- The opcode table's numbering: byte k of an instruction is bits 8k+7..8k. -/
theorem test_decodeTableWord : decodeTableWord 24 0x12345F = some (.jmpAbs 0x1234) ∧
    decodeTableWord 8 0x5F = some (.jmpAbs 0) := by decide

/-- No form is shut out: the tables of Safety.lean hold each of the 256 opcodes once (256 forms, whose opcodes set all of 256
bits). -/
theorem test_forms_cover_opcodes :
    let ops {α : Type} (l : List (Form α)) : List Nat := l.map fun f => f.opcode.toNat
    let all :=
      ops (loadForms 0 0) ++ ops (storeForms 0 0) ++ ops moveForms ++ ops moveToSpForm ++ ops (moveByteForms 0 0) ++
      ops (orForms 0 0) ++ ops (andForms 0 0) ++ ops (eorForms 0 0) ++ ops (adcForms 0 0) ++ ops (sbcForms 0 0) ++
      ops (cmpForms 0 0) ++ ops (cmpXYForms 0 0) ++ ops (leftShiftForms 0 0) ++ ops (rightShiftForms 0 0) ++
      ops (incDecForms 0 0) ++ ops (movwForms 0) ++ ops (incwForms 0) ++ ops (wordForms 0) ++ ops mulForm ++
      ops divForm ++ ops (branchForms 0) ++ ops (bitBranchForms 0 0) ++ ops (cbneForms 0 0) ++ ops (dbnzForms 0 0) ++
      ops (jumpForms 0 0) ++ ops tcallForms ++ ops retForm ++ ops pushForms ++ ops popForms ++ ops (bitForms 0) ++
      ops (testForms 0 0) ++ ops flagForms ++ ops (carryForms 0 0) ++ ops (storeBitForms 0 0) ++ ops hibForms ++
      ops decimalForms ++ ops breakForms ++ ops haltForms
    all.length = 256 ∧ all.foldl (fun bits op => bits ||| 2 ^ op) 0 = 2 ^ 256 - 1 := by decide +kernel

/-! ### Single steps: the vectors of 95_test_vectors.md, Part 2 -/

/-- The spec's state E, its RAM as far as these vectors read it. -/
def stateE : State :=
  { State.reset with
    a := 0x3C, x := 0x02, y := 0x05, target := 1000, phase := .cpu
    flags := { State.reset.flags with c := true }
    ram :=
      [(0x0002, 0x9C), (0x0005, 0x21), (0x0010, 0x80), (0x0011, 0x04), (0x0020, 0x0F), (0x0310, 0xA5), (0x0312, 0x01),
        (0x0313, 0x06), (0xFFC1, 0x1F), (0xFFDF, 0x10)] }

/-- Bytes put in RAM from `a` on. -/
def put (a : Word) : List Byte → State → State
  | [], s => s
  | v :: vs, s => put (a + 1) vs (s.poke a v)

/-- What the vectors show: A, X, Y, SP, the packed PSW, PC and the time. -/
structure View where
  a : Byte
  x : Byte
  y : Byte
  sp : Byte
  psw : Byte
  pc : Word
  time : Nat
  deriving DecidableEq, Repr

def view (s : State) : View := ⟨s.a, s.x, s.y, s.sp, s.packPsw, s.pc, s.time⟩

/-- One step with an instruction at 0x0200, and what it leaves, with the bytes at `as`. -/
def after (bytes : List Byte) (s : State) (as : List Word := []) : Option (View × List Byte) :=
  match step (put 0x0200 bytes s) with
  | .next t => some (view t, as.map t.peek)
  | _ => none

/-- V-LS-4: dp+X wraps in the page, 0xFF + 2 = 0x01. -/
theorem test_mov_a_dpX : after [0xF4, 0xFF] stateE = some (⟨0x00, 2, 5, 0xEF, 0x03, 0x0202, 4⟩, []) := by decide

/-- V-LS-5: `(X)+` increments X modulo 0x100. -/
theorem test_mov_a_indXInc : after [0xBF] { stateE with x := 0xFF } =
    some (⟨0x00, 0x00, 5, 0xEF, 0x03, 0x0201, 4⟩, []) := by decide

/-- V-LS-6: the first byte of `dd, ss` is the source. -/
theorem test_mov_dd_ss : after [0xFA, 0x10, 0x30] stateE [0x0030] =
    some (⟨0x3C, 2, 5, 0xEF, 0x01, 0x0203, 5⟩, [0x80]) := by decide

/-- V-LS-8: MOV SP, X writes no flag. -/
theorem test_mov_sp_x : after [0xBD] { stateE with x := 0 } =
    some (⟨0x3C, 0, 5, 0x00, 0x01, 0x0201, 2⟩, []) := by decide

/-- V-LS-13: the DSP data port at index 0x85 reads dsp_regs[0x05]. -/
theorem test_dsp_port_read : after [0xE4, 0xF3] ((stateE.poke 0xF2 0x85).setDspReg 5 0xAB) [0x00F3] =
    some (⟨0xAB, 2, 5, 0xEF, 0x81, 0x0202, 3⟩, [0xAB]) := by decide

/-- V-ALU-2: a sum of 0x100 sets C and Z. -/
theorem test_adc_carry : after [0x88, 0xC3] stateE = some (⟨0x00, 2, 5, 0xEF, 0x03, 0x0202, 2⟩, []) := by decide

/-- V-ALU-11: under FLAG_PROFILE = hardware ADC writes V and H. -/
theorem test_adc_hardware :
    after [0x88, 0x44] { stateE with params := { stateE.params with flagProfile := .hardware } } =
      some (⟨0x81, 2, 5, 0xEF, 0xC8, 0x0202, 2⟩, []) := by decide

/-- V-ALU-5: SBC with C clear borrows one more. -/
theorem test_sbc_borrow : after [0xA8, 0x3C] { stateE with flags := State.reset.flags } =
    some (⟨0xFF, 2, 5, 0xEF, 0x80, 0x0202, 2⟩, []) := by decide

/-- V-ALU-6: CMP A below its operand. -/
theorem test_cmp_below : after [0x68, 0x3D] stateE = some (⟨0x3C, 2, 5, 0xEF, 0x80, 0x0202, 2⟩, []) := by decide

/-- V-ALU-10: ADC (X), (Y) stores at X. -/
theorem test_adc_indX_indY : after [0x99] stateE [0x0002, 0x0005] =
    some (⟨0x3C, 2, 5, 0xEF, 0x80, 0x0201, 5⟩, [0xBE, 0x21]) := by decide

/-- V-RMW-4: ROR takes the old carry into bit 7 and bit 0 into C. -/
theorem test_ror_a : after [0x7C] { stateE with a := 1 } = some (⟨0x80, 2, 5, 0xEF, 0x81, 0x0201, 2⟩, []) := by decide

/-- V-RMW-7: INC of a counter register: the read clears the counter, the store of 4 does not set it. -/
theorem test_inc_counter : after [0xAB, 0xFD]
    { stateE with timers := stateE.timers.set 0 { Timer.reset with counter := 3 } } [0x00FD] =
      some (⟨0x3C, 2, 5, 0xEF, 0x01, 0x0202, 4⟩, [0x04]) := by decide

/-- V-WORD-2: the word at direct-page offset 0xFF has its high byte at offset 0x00. -/
theorem test_movw_wraps : after [0xBA, 0xFF] (stateE.poke 0x0000 0x12) =
    some (⟨0x00, 2, 0x12, 0xEF, 0x01, 0x0202, 5⟩, []) := by decide

/-- V-WORD-5: SUBW with C clear borrows one more. -/
theorem test_subw_borrow : after [0x9A, 0x10] { stateE with flags := State.reset.flags } =
    some (⟨0xBB, 2, 0x00, 0xEF, 0x01, 0x0202, 5⟩, []) := by decide

/-- V-WORD-8: MUL's flags are those of Y. -/
theorem test_mul_flags : after [0xCF] { stateE with a := 0xFF, y := 0xFF } =
    some (⟨0x01, 2, 0xFE, 0xEF, 0x81, 0x0201, 9⟩, []) := by decide

/-- V-WORD-9: a quotient of 0x123 leaves its low byte, and V is set. -/
theorem test_div_overflow : after [0x9E] { stateE with a := 0x34, y := 0x12, x := 0x10 } =
    some (⟨0x23, 0x10, 0x04, 0xEF, 0x41, 0x0201, 12⟩, []) := by decide

/-- V-WORD-11: DIV by 0 runs. -/
theorem test_div_zero : after [0x9E] { stateE with a := 0x34, y := 0x12, x := 0 } =
    some (⟨0xED, 0x00, 0x34, 0xEF, 0xC1, 0x0201, 12⟩, []) := by decide

/-- V-CTL-2: a branch not taken refunds 2 cycles. -/
theorem test_beq_not_taken : after [0xF0, 0x04] stateE = some (⟨0x3C, 2, 5, 0xEF, 0x01, 0x0202, 2⟩, []) := by decide

/-- V-CTL-4: BRA by -128. -/
theorem test_bra_back : after [0x2F, 0x80] stateE = some (⟨0x3C, 2, 5, 0xEF, 0x01, 0x0182, 4⟩, []) := by decide

/-- V-CTL-5: CALL pushes the high byte first. -/
theorem test_call_pushes : after [0x3F, 0x00, 0x30] stateE [0x01EF, 0x01EE] =
    some (⟨0x3C, 2, 5, 0xED, 0x01, 0x3000, 8⟩, [0x02, 0x03]) := by decide

/-- V-CTL-8: TCALL 15 jumps through 0xFFC0. -/
theorem test_tcall15 : after [0xF1] stateE [0x01EF, 0x01EE] =
    some (⟨0x3C, 2, 5, 0xED, 0x01, 0x1F00, 8⟩, [0x02, 0x01]) := by decide

/-- V-CTL-14: POP PSW of a byte with N and Z both set. -/
theorem test_pop_psw : after [0x8E] (stateE.poke 0x01F0 0x82) =
    some (⟨0x3C, 2, 5, 0xF0, 0x02, 0x0201, 4⟩, []) := by decide

/-- V-CTL-15: JMP [!abs+X]. -/
theorem test_jmp_indirect : after [0x1F, 0x10, 0x03] stateE =
    some (⟨0x3C, 2, 5, 0xEF, 0x01, 0x0601, 6⟩, []) := by decide

/-- V-CTL-16: PUSH at SP = 0 writes 0x0100 and SP wraps. -/
theorem test_push_wraps : after [0x2D] { stateE with sp := 0 } [0x0100] =
    some (⟨0x3C, 2, 5, 0xFF, 0x01, 0x0201, 4⟩, [0x3C]) := by decide

/-- V-BIT-4: TCLR1's flags are those of A - m. -/
theorem test_tclr1 : after [0x4E, 0x10, 0x03] stateE [0x0310] =
    some (⟨0x3C, 2, 5, 0xEF, 0x81, 0x0203, 6⟩, [0x81]) := by decide

/-- V-BIT-7: SETP. -/
theorem test_setp : after [0x40] stateE = some (⟨0x3C, 2, 5, 0xEF, 0x21, 0x0201, 2⟩, []) := by decide

/-- V-XTRA-8: BRK with its opcode in IMPLEMENTED. -/
theorem test_brk : after [0x0F] { stateE with params := { stateE.params with excluded := [] } } [0x01EF, 0x01EE, 0x01ED] =
    some (⟨0x3C, 2, 5, 0xEC, 0x11, 0x1000, 8⟩, [0x02, 0x01, 0x01]) := by decide

/-- V-LOOP-6: the address after an instruction wraps. -/
theorem test_bra_wraps : (match step (put 0xFFFE [0x2F, 0x02] { stateE with pc := 0xFFFE }) with
    | .next t => some (t.pc, t.time)
    | _ => none) = some (0x0002, 4) := by decide

/-- V-TMR-5: two reads 10 cycles apart with a tick between them. -/
theorem test_timer_reads :
    let tm := ((Timer.reset.setDivisor 128 0 1).setEnabled 128 0 true).readCounter 128 120
    tm.1 = 0 ∧ (tm.2.readCounter 128 130).1 = 1 := by decide

/-- V-BRR-10: the clamp before the doubling, and the wrap after it. -/
theorem test_brr_wrap :
    (brrNibble 0xC8 7 { Voice.reset with ring := (Vector.replicate 24 0).set 11 32767 |>.set 10 (-32768) }).slot 0 = -2 := by
  decide

/-- V-BRR-6: filter 3. -/
theorem test_brr_filter3 :
    (brrNibble 0x0C 0 { Voice.reset with ring := (Vector.replicate 24 0).set 11 1000 |>.set 10 800 }).slot 0 = 1146 := by
  decide

/-- V-GAUSS-7: the interpolation of the lowest samples. -/
theorem test_gauss_floor : interpolate Params.standard { Voice.reset with ring := Vector.replicate 24 (-32768) } = -32784 := by
  decide +kernel

/-- V-ENV-2, its first sample: ATTACK by 0x400. -/
theorem test_attack : envelopeStep (State.reset.setDspReg 5 0x8F) 0 { Voice.reset with mode := .attack } =
    .ok { Voice.reset with mode := .attack, env := 0x400, pend := 0x400 } := by decide

/-- The rate counter table of 95_test_vectors.md. -/
theorem test_rate_fires :
    let fires := Params.standard.rateFires
    fires 30 2 = true ∧ fires 30 3 = false ∧ fires 3 744 = true ∧ fires 3 745 = false ∧ fires 0 0 = false := by decide

/-- R8: another setting of DIV_OVERFLOW, RATE_FIRES, GAUSS and SNAPSHOT_SIGNATURE is used where the default would be. -/
theorem test_parameter_settings :
    let p : Params :=
      { Params.standard with
        divOverflowAt := [((0x1234, 0), (7, 9))], rateFiresAt := [((31, 5), false)]
        gauss := Vector.replicate 512 512, signature := Vector.replicate 37 0 }
    after [0x9E] { stateE with a := 0x34, y := 0x12, x := 0, params := p } =
        some (⟨0x07, 0x00, 0x09, 0xEF, 0x41, 0x0201, 12⟩, []) ∧
      p.divOverflow 0x1234 0x10 = Params.standard.divOverflow 0x1234 0x10 ∧
      p.rateFires 31 5 = false ∧ p.rateFires 31 6 = true ∧
      interpolate p { Voice.reset with ring := Vector.replicate 24 1000 } = 1000 ∧
      (match loadSnapshot p (List.replicate 0x10180 0) with | .next _ => true | _ => false) = true := by decide +kernel

/-- The mixing table of 95_test_vectors.md: the floor shift and the clamp. -/
theorem test_master_mix : (masterMix (-100000) 0x7F).toInt = -776 ∧ (masterMix 10000000 0x80).toInt = -32768 := by decide

/-! ### Witnesses: a state and operands that meet the hypotheses of each statement that has some

The hypotheses `f ∈ …Forms` of the statements on instructions are met by every opcode (`test_forms_cover_opcodes`). -/

/-- A machine inside `run`, with a NOP at PC. -/
def running : State := { State.reset with phase := .cpu, target := 32 }

theorem witness_encodeDecode : decode [0xFA, 0x10, 0x30] = .ok (.movDdSs 0x30 0x10, []) := by decide

/-- StepRunsDecoded on an idle machine, and on a CALL that ends at the target, its bytes below the refreshed ones. -/
theorem witness_stepRunsDecoded :
    (let s := State.reset
      let u := inCall s
      s.fault = none ∧ s.halted = false ∧ s.phase ≠ .dsp ∧ u.time < u.target ∧
        refreshed u.pc = false ∧ refreshed (u.pc + 1) = false ∧ refreshed (u.pc + 2) = false ∧
        decode (bytesAt u u.pc) = .ok (.nop, [0, 0]) ∧
        u.params.implements (u.peek u.pc) = true ∧ Fits (u.peek u.pc) u) ∧
    (let s := put 0x00FA [0x3F, 0x34, 0x12] { running with pc := 0x00FA, time := 24 }
      let u := inCall s
      s.fault = none ∧ s.halted = false ∧ s.phase ≠ .dsp ∧ u.time < u.target ∧
        refreshed u.pc = false ∧ refreshed (u.pc + 1) = false ∧ refreshed (u.pc + 2) = false ∧
        decode (bytesAt u u.pc) = .ok (.call 0x1234, []) ∧
        u.params.implements (u.peek u.pc) = true ∧ Fits (u.peek u.pc) u) := by
  simp only [Fits]; decide +kernel

/-- StepFetchesInOrder at 0x00FC: the operand fetch reads, and clears, the counter of timer 0. -/
theorem witness_stepFetchesInOrder :
    let s := put 0x00FC [0xE8]
      { running with pc := 0x00FC, timers := running.timers.set 0 { Timer.reset with counter := 5 } }
    let u := inCall s
    let f0 := fetch u.pc u
    let f1 := fetch (u.pc + 1) { f0.2 with time := u.time + opCycles f0.1 }
    s.fault = none ∧ s.halted = false ∧ s.phase ≠ .dsp ∧ u.time < u.target ∧ opLength f0.1 = 2 ∧
      decode [f0.1, f1.1, 0] = .ok (.movAImm 5, [0]) ∧ f1.2.timers[0].counter = 0 ∧
      u.params.implements f0.1 = true ∧ Fits f0.1 u := by
  simp only [Fits]; decide +kernel

/-- DeferralLeavesState: V-LOOP-1, a DIV with 11 cycles left, and V-LOOP-3, an opcode at 0x00FD. -/
theorem witness_deferralLeavesState :
    (let s := put 0x0200 [0x9E] { running with target := 11 }
      let u := inCall s
      s.fault = none ∧ s.halted = false ∧ s.phase ≠ .dsp ∧ u.time < u.target ∧ ¬ Fits (fetch u.pc u).1 u ∧
        refreshed u.pc = false) ∧
    (let s :=
        { running with pc := 0x00FD, target := 1, timers := running.timers.set 0 { Timer.reset with counter := 5 } }
      let u := inCall s
      s.fault = none ∧ s.halted = false ∧ s.phase ≠ .dsp ∧ u.time < u.target ∧ ¬ Fits (fetch u.pc u).1 u ∧
        refreshed u.pc = true) := by
  simp only [Fits]; decide +kernel

theorem witness_runEnds :
    let s : State := { running with halted := true }
    let t : State := { running with time := 32 }
    (s.fault = none ∧ s.phase ≠ .dsp ∧ s.halted = true) ∧ t.fault = none ∧ t.phase ≠ .dsp ∧ t.halted = false ∧
      (inCall t).target ≤ (inCall t).time := by decide +kernel

/-- UnknownOpcodeFaults: an AND1, three bytes (V-XTRA-6). -/
theorem witness_unknownOpcodeFaults :
    let s := put 0x0200 [0x4A, 0x10, 0x63] State.reset
    let u := inCall s
    s.fault = none ∧ s.halted = false ∧ s.phase ≠ .dsp ∧ u.time < u.target ∧
      u.params.implements (fetch u.pc u).1 = false ∧ Fits (fetch u.pc u).1 u := by
  simp only [Fits]; decide +kernel

/-- FaultsAreTerminal: each of its outcomes is met, the faults on a BRK and on a sounding voice with its noise bit. -/
theorem witness_faultsAreTerminal :
    let noisy := (State.reset.setVoice 3 { Voice.reset with env := 1 }).setDspReg 0x3D 0x08
    (match step running with | .next _ => true | _ => false) = true ∧
      (match step (put 0x0200 [0x0F] running) with
        | .fault (.unknownOpcode 0x0F a _) => decide (a = 0x0200)
        | _ => false) = true ∧
      (match step { noisy with phase := .dsp } with
        | .fault (.unsupportedFeature .noise v _) => decide (v = 3)
        | _ => false) = true := by decide

/-- RegisterWriters: POP PSW changes SP and all five flags, and every clause's antecedent holds at once. -/
theorem witness_registerWriters :
    let s := put 0x01F0 [0xFF] running
    s.params.flagProfile = .spcjs ∧
      (match exec .popPsw s with
        | .next t =>
          decide (t.sp ≠ s.sp ∧ t.flags.p ≠ s.flags.p ∧ t.flags.v ≠ s.flags.v ∧ t.flags.b ≠ s.flags.b ∧
            t.flags.h ≠ s.flags.h ∧ t.flags.i ≠ s.flags.i)
        | _ => false) = true := by decide +kernel

/-- MemReadRule at the edges of its clauses: the first and the last counter register, the data port with an index of 0xFF,
and the addresses beside them. -/
theorem witness_memReadRule :
    let s :=
      { (put 0x00F2 [0xFF] running).setDspReg 0x7F 0xAB with
        timers := #v[{ Timer.reset with counter := 11 }, Timer.reset, { Timer.reset with counter := 12 }] }
    (0x00FD : Word).toNat = 0xFD + (0 : Fin 3) ∧ (memRead 0x00FD s).1 = 11 ∧
      (0x00FF : Word).toNat = 0xFD + (2 : Fin 3) ∧ (memRead 0x00FF s).1 = 12 ∧
      (memRead 0x00F3 s).1 = 0xAB ∧ [0x00F2, 0x00F4, 0x00FC, 0x0100, 0x0000, 0xFFFF].all (refreshed · == false) = true ∧
      (memRead 0x00F2 s).1 = 0xFF := by decide +kernel

/-- MemWriteRule at the edges of its clauses: all three enables, the first and the last divisor, a counter register, and the
data port with the indexes 0x7F and 0x80. -/
theorem witness_memWriteRule :
    (∀ i : Fin 3, (memWrite 0x00F1 0xFF running).timers[i].enabled = true) ∧
      (memWrite 0x00FA 9 running).timers[(0 : Fin 3)].divisor = 9 ∧
      (memWrite 0x00FC 9 running).timers[(2 : Fin 3)].divisor = 9 ∧
      (memWrite 0x00FD 9 running).timers = running.timers ∧
      (memWrite 0x00F3 9 (put 0x00F2 [0x7F] running)).dspRegs[(0x7F : Fin 128)] = 9 ∧
      (memWrite 0x00F3 9 (put 0x00F2 [0x80] running)).dspRegs = running.dspRegs := by decide +kernel

/-- AddressingModes where the addresses wrap: dp+X in page 1, !abs+Y over 0xFFFF. -/
theorem witness_addressingModes :
    let s := { running with x := 2, y := 5, flags := { running.flags with p := true } }
    ((Mode.dpX 0xFF).ea s).1 = 0x0101 ∧ (Mode.indX.ea s).1 = 0x0102 ∧ ((Mode.absY 0xFFFE).ea s).1 = 0x0003 := by decide

/-- TimerSync on an enabled and a disabled timer; TimerOperations with no tick and with fifteen between the reads. -/
theorem witness_timers :
    let tm := { Timer.reset with enabled := true, divisor := 1 }
    let q := 128 * (if tm.divisor = 0 then 256 else tm.divisor.toNat)
    tm.enabled = true ∧ Timer.reset.enabled = false ∧ q = 128 ∧ (tm.sync 128 255).counter = 1 ∧
      ((120 : Nat) ≤ 127 ∧ 127 / q - 120 / q < 16) ∧ (100 : Nat) ≤ 2047 ∧ 2047 / q - 100 / q < 16 := by decide

theorem witness_pswViews : stateE.flagsOk ∧
    State.flagsOk { stateE with params := { stateE.params with hibPolicy := .zero } } := by
  unfold State.flagsOk; decide

/-- The clauses of AdcRuns, WordArithmeticRuns and MulDivRun for the hardware flags. -/
theorem witness_hardware :
    let s := { stateE with params := { stateE.params with flagProfile := .hardware } }
    s.params.flagProfile = .hardware ∧ s.params.hibPolicy = .preserve ∧ stateE.params.flagProfile = .spcjs := by decide

/-- MulDivRun's default DIV_OVERFLOW: a divisor of 0, and a high byte equal to the divisor. -/
theorem witness_mulDivRun : (0 : Byte) ≤ (0x1234 : Word).hi ∧ Params.standard.divOverflow 0x1234 0 = (0xED, 0x34) ∧
    (0x12 : Byte) ≤ (0x1234 : Word).hi ∧ Params.standard.divOverflow 0x1234 0x12 = (0x102, 0x10) := by decide

/-- SubtractUndoesAdd (V-ALU-RT-3), with the carry set and clear before the subtraction. -/
theorem witness_subtractUndoesAdd :
    let sum := (alu .adc 0xFF 0x01 running).1
    running.flags.c = false ∧ (alu .sbc sum 0x01 stateE).1 = 0xFF ∧ (alu .sbc sum 0x01 running).1 = 0xFE := by decide

theorem witness_decimalAdjustsRun :
    let s := { running with a := 0x9A, flags := { running.flags with h := true } }
    s.flagsOk ∧ ∃ t, exec .daa s = .next t ∧ t.a = 0x00 ∧ t.flags.c = true := by
  refine ⟨?_, _, rfl, by decide⟩
  unfold State.flagsOk; decide

/-- SampleBegins on both kinds of sample. -/
theorem witness_sampleBegins :
    let s := running.setDspReg 0x4C 0x81
    s.everyOther = true ∧ (latchKeys s).konLatch = 0 ∧ (latchKeys { s with everyOther := false }).konLatch = 0x81 := by
  decide

/-- KeyOn: no delay, its first and its last sample, and a voice keyed on and off at once. -/
theorem witness_keyOn :
    Voice.reset.konDelay = 0 ∧ (5 : Nat) = 4 + 1 ∧ (1 : Nat) = 0 + 1 ∧
      (keyOnDelay running 0 ⟨{ Voice.reset with konDelay := 5, wpos := 8 }, 0xC3, 7⟩).vo.wpos = 0 ∧
      (keyOnDelay running 0 ⟨{ Voice.reset with konDelay := 1, wpos := 8 }, 0xC3, 7⟩).vo.wpos = 8 ∧
      (keyOnOff { running with konLatch := 1, kofLatch := 1 } 0 Voice.reset).konDelay = 5 := by decide

/-- EnvelopeStep: each clause's hypotheses. -/
theorem witness_envelopeStep :
    let s := (running.setDspReg 5 0x8F).setDspReg 6 0xE0
    let a1 (s : State) := (s.voiceReg 0 5).toNat
    let voice (m : EnvMode) : Voice := { Voice.reset with mode := m, env := 0x7FF }
    (voice .release).env ≤ 0x7FF ∧ ({ voice .attack with konDelay := 5 }).konDelay ≠ 0 ∧
      (voice .attack).konDelay = 0 ∧ (voice .attack).mode ≠ .release ∧ a1 running < 128 ∧ 128 ≤ a1 s ∧
      (match envelopeStep s 0 (voice .attack) with | .ok t => decide (t.mode = .decay) | _ => false) = true ∧
      (match envelopeStep s 0 (voice .decay) with | .ok t => decide (t.mode = .sustain) | _ => false) = true ∧
      (match envelopeStep s 0 (voice .sustain) with | .ok t => decide (t.pend = 0x7F7) | _ => false) = true ∧
      (match envelopeStep s 0 (voice .release) with | .ok t => decide (t.env = 0x7F7) | _ => false) = true := by decide

/-- UnsupportedFeatures: a voice step ends in each of the five ways. -/
theorem witness_unsupportedFeatures :
    let s := running.setVoice 0 { Voice.reset with env := 1, mode := .attack }
    (match voiceStep ((s.setDspReg 0x3D 1).setDspReg 0x4D 1) 0 with | .unsupported .noise _ => true | _ => false) = true ∧
      (match voiceStep ((s.setDspReg 0x4D 1).setDspReg 0x2D 1) 0 with
        | .unsupported .echo _ => true
        | _ => false) = true ∧
      (match voiceStep (s.setDspReg 0x2D 1) 0 with | .unsupported .pitchmod _ => true | _ => false) = true ∧
      (match voiceStep s 0 with | .unsupported .gain _ => true | _ => false) = true ∧
      (match voiceStep (s.setDspReg 5 0x8F) 0 with | .done _ _ _ => true | _ => false) = true := by decide

theorem reset_slot (i : Nat) : Voice.reset.slot i = 0 := by
  simp only [Voice.slot, Voice.reset, Vector.getElem?_replicate]
  split <;> rfl

/-- A voice with silent samples is legal at any block offset. -/
theorem silent_voice_ok (off : Nat) (h : off = 0 ∨ off = 2 ∨ off = 4 ∨ off = 6) :
    Voice.Ok { Voice.reset with brrOff := off } where
  konDelay := Nat.zero_le 5
  wpos := .inl rfl
  brrOff := h
  env := Nat.zero_le _
  pend := Nat.zero_le _
  interp := Nat.zero_le _
  mirror i _ := (reset_slot (i + 12)).trans (reset_slot i).symm
  range i := by
    have h : ({ Voice.reset with brrOff := off } : Voice).slot i = 0 := reset_slot i
    omega

/-- InterpolationBounds: a legal voice under the default GAUSS, and the last window of the ring. -/
theorem witness_interpolationBounds :
    running.params.gauss = Params.standard.gauss ∧ Voice.reset.Ok ∧ (0 : Nat) < 256 ∧ (255 : Nat) < 256 ∧ (510 : Nat) < 511 ∧
      (let vo := { Voice.reset with wpos := 11, interp := 0x7FFF };
        vo.wpos < 12 ∧ vo.interp ≤ 0x7FFF ∧ vo.wpos + vo.interp / 4096 + 3 = 21) :=
  ⟨rfl, silent_voice_ok 0 (.inl rfl), by decide⟩

/-- BlockStep: the last nibble position, and a block's last step with each end of the block. -/
theorem witness_blockStep :
    let vo := { Voice.reset with brrOff := 6 }
    vo.Ok ∧ vo.brrOff = 6 ∧ (11 : Nat) < 12 ∧ (15 : Nat) < 16 ∧ (0x03 : Byte) &&& 0xFC = 0 ∧
      (blockStep running 0 0x00 vo).brrAddr = 9 ∧ (blockStep running 0 0x01 vo).mode = .release ∧
      (blockStep (put 0x0002 [0x34, 0x12] running) 0 0x03 vo).brrAddr = 0x1234 ∧
      (blockStep running 0 0x01 Voice.reset).brrOff = 2 :=
  ⟨silent_voice_ok 6 (by decide), by decide⟩

/-- SampleMixes: eight silent voices. -/
theorem witness_sampleMixes : ∀ v : Fin 8,
    voiceStep (stepRateCounter (latchKeys running)) v = .done Voice.reset 0 0 := by decide

/-- SampleMixes: a sounding voice is done with a pair of its own. -/
theorem witness_sampleMixes_sounding :
    let vo := { Voice.reset with ring := Vector.replicate 24 16384, env := 0x7FF, mode := .sustain }
    let s := ((running.setVoice 0 vo).setDspReg 0 0x7F).setDspReg 5 0x80
    (match voiceStep (stepRateCounter (latchKeys s)) 0 with
      | .done _ l r => decide (l = 16383 * 0x7F ∧ r = 0)
      | _ => false) = true := by decide +kernel

/-- SampleMixes: a step that is done, with the accumulator just below 0x4000 and at it. -/
theorem witness_sampleMixes_block :
    let s (n : Nat) := running.setVoice 0 { Voice.reset with interp := n }
    (match voiceStep (s 0x3FFF) 0 with | .done vo _ _ => decide (vo.wpos = 0 ∧ vo.interp = 0x3FFF) | _ => false) = true ∧
      (match voiceStep (s 0x4000) 0 with | .done vo _ _ => decide (vo.wpos = 4 ∧ vo.interp = 0) | _ => false) = true := by
  decide +kernel

/-- A legal machine in each phase. -/
theorem running_inv (ph : Phase) (target : Nat) (h : target ≤ if ph = .cpu then 43 else 11) :
    State.Inv { running with phase := ph, target := target } where
  ram := ⟨.nil, fun _ h => (nomatch h)⟩
  flags := ⟨fun h => (nomatch h.1), fun _ => ⟨rfl, rfl, rfl⟩⟩
  counters i := by
    have h : running.timers[i] = Timer.reset := Vector.getElem_replicate i.isLt
    exact Nat.le_trans (Nat.le_of_eq (congrArg Timer.counter h)) (by decide)
  rateCounter := Nat.zero_le _
  voices v := by
    have h : running.voices[v] = Voice.reset := Vector.getElem_replicate v.isLt
    exact h ▸ silent_voice_ok 0 (.inl rfl)
  time := ⟨Nat.zero_le _, by simpa [running, State.reset] using h⟩

/-- StepKeepsInvariant and TimeNeverRegresses, in each phase. -/
theorem witness_stepKeepsInvariant :
    ∀ p ∈ [(Phase.cpu, 32), (.idle, 11), (.dsp, 0)],
      State.Inv { running with phase := p.1, target := p.2 } ∧
        (match step { running with phase := p.1, target := p.2 } with | .next _ => true | _ => false) = true := by
  intro p hp
  refine ⟨running_inv p.1 p.2 ?_, ?_⟩ <;> revert p <;> decide +kernel

/-- ProduceFrameEnds. -/
theorem witness_produceFrameEnds :
    let s : State := { running with phase := .idle, target := 11 }
    s.Inv ∧ s.phase = .idle ∧ s.fault = none :=
  ⟨running_inv .idle 11 (by decide), rfl, rfl⟩

/-- LoadBuildsState: an empty snapshot, one of zeros, and one with the signature. -/
theorem witness_loadBuildsState :
    let zeros : List Byte := List.replicate 0x10180 0
    let signature := Params.standard.signature
    let good : List Byte := signature.toList ++ List.replicate 0x1015B 0
    ([] : List Byte).length < 0x10180 ∧ (0x10180 ≤ zeros.length ∧ ∃ i : Fin 37, zeros.getD i 0 ≠ signature[i]) ∧
      0x10180 ≤ good.length ∧ ∀ i : Fin 37, good.getD i 0 = signature[i] := by
  refine ⟨by decide, ⟨List.length_replicate.ge, 0, by decide +kernel⟩, ?_, by decide +kernel⟩
  simp only [List.length_append, Vector.length_toList, List.length_replicate]; decide

end Sys2Proof.Tests
end

section
/-! PROOFS. The packed PSW and the flags unpacked from a byte (R36, R37). -/

namespace Sys2Proof.Machine

/-- The bits of a byte put together from eight bits, the highest first. -/
theorem getLsbD_eight_bits (b7 b6 b5 b4 b3 b2 b1 b0 : Bool) :
    let v := BitVec.ofBool b7 ++ BitVec.ofBool b6 ++ BitVec.ofBool b5 ++ BitVec.ofBool b4 ++ BitVec.ofBool b3 ++
      BitVec.ofBool b2 ++ BitVec.ofBool b1 ++ BitVec.ofBool b0
    v.getLsbD 7 = b7 ∧ v.getLsbD 6 = b6 ∧ v.getLsbD 5 = b5 ∧ v.getLsbD 4 = b4 ∧ v.getLsbD 3 = b3 ∧
      v.getLsbD 2 = b2 ∧ v.getLsbD 1 = b1 ∧ v.getLsbD 0 = b0 := by
  simp only [BitVec.getLsbD_append, BitVec.getLsbD_ofBool]
  simp

/-- R36: the bits of the packed PSW, in the layout of R34. -/
theorem State.packPsw_bits (s : State) :
    let keep := decide (s.params.hibPolicy = .preserve)
    s.packPsw.getLsbD 7 = s.flags.n ∧ s.packPsw.getLsbD 6 = s.flags.v ∧ s.packPsw.getLsbD 5 = s.flags.p ∧
      s.packPsw.getLsbD 4 = (keep && s.flags.b) ∧ s.packPsw.getLsbD 3 = (keep && s.flags.h) ∧
      s.packPsw.getLsbD 2 = (keep && s.flags.i) ∧ s.packPsw.getLsbD 1 = s.flags.z ∧ s.packPsw.getLsbD 0 = s.flags.c := by
  simp only [← State.hib_eq]
  exact getLsbD_eight_bits ..

/-- R37. -/
theorem State.unpackPsw_flags (s : State) (v : Byte) :
    (s.unpackPsw v).flags =
      let keep := decide (s.params.hibPolicy = .preserve)
      { n := v.getLsbD 7 && !v.getLsbD 1, v := v.getLsbD 6, p := v.getLsbD 5, b := keep && v.getLsbD 4,
        h := keep && v.getLsbD 3, i := keep && v.getLsbD 2, z := v.getLsbD 1, c := v.getLsbD 0 } := by
  simp only [State.unpackPsw, State.hib_eq]

/-- R36, R37: legal flags survive the round trip: N is not lost to a set Z, and a policy that stores no B, H and I finds
them 0. -/
theorem State.unpackPsw_packPsw_flags (s : State) (h : s.flagsOk) : (s.unpackPsw s.packPsw).flags = s.flags := by
  obtain ⟨hnz, hhib⟩ := h
  obtain ⟨h7, h6, h5, h4, h3, h2, h1, h0⟩ := s.packPsw_bits
  have hn : (s.flags.n && !s.flags.z) = s.flags.n := by
    cases hn : s.flags.n
    · rfl
    · rw [Bool.eq_false_iff.mpr fun hz => hnz ⟨hn, hz⟩]; rfl
  have keep {bit : Bool} (h : s.params.hibPolicy = .zero → bit = false) :
      (decide (s.params.hibPolicy = .preserve) && bit) = bit := by
    cases hp : s.params.hibPolicy with
    | preserve => simp
    | zero => simp [h hp]
  rw [State.unpackPsw_flags, h7, h6, h5, h4, h3, h2, h1, h0, hn]
  simp only [keep fun z => (hhib z).1, keep fun z => (hhib z).2.1, keep fun z => (hhib z).2.2]

/-- Settles O17: the bits of R36 one by one, the flags of R37, and their round trip. -/
theorem pswViews : Obligations.PswViews := by
  intro s v
  refine ⟨fun k bit h => ?_, s.unpackPsw_flags v, s.unpackPsw_packPsw_flags⟩
  obtain ⟨h7, h6, h5, h4, h3, h2, h1, h0⟩ := s.packPsw_bits
  simp only [List.mem_cons, Prod.mk.injEq, List.not_mem_nil, or_false] at h
  rcases h with h | h | h | h | h | h | h | h <;> (obtain ⟨rfl, rfl⟩ := h; assumption)

end Sys2Proof.Machine
end

section
/-! PROOFS. What an operation on the state keeps of the machine and of its invariant: one rule per primitive operation,
the rules of the operations and shapes built from them by composition. -/

namespace Sys2Proof.Machine

/-! ### The CPU's part of the invariant -/

/-- The clauses of `State.Inv` an instruction's body can touch: the form of RAM, the flags and the timers' counters. -/
structure State.CpuOk (s : State) : Prop where
  ram : Memory.wf s.ram
  flags : s.flagsOk
  counters : ∀ i : Fin 3, s.timers[i].counter ≤ 15

theorem Timer.sync_counter_le (rate t : Nat) (tm : Timer) (h : tm.counter ≤ 15) : (tm.sync rate t).counter ≤ 15 := by
  simp only [Timer.sync]
  split
  · omega
  · exact h

theorem Timer.setEnabled_counter_le (rate t : Nat) (e : Bool) (tm : Timer) (h : tm.counter ≤ 15) :
    (tm.setEnabled rate t e).counter ≤ 15 := by
  unfold Timer.setEnabled
  split
  · exact h
  · dsimp only
    split
    · exact Nat.zero_le _
    · exact Timer.sync_counter_le rate t tm h

theorem Timer.setDivisor_counter_le (rate t : Nat) (v : Byte) (tm : Timer) (h : tm.counter ≤ 15) :
    (tm.setDivisor rate t v).counter ≤ 15 := by
  unfold Timer.setDivisor
  split
  · exact h
  · exact Timer.sync_counter_le rate t tm h

theorem State.onTimer_counters (s : State) (i : Fin 3) (f : Nat → Nat → Timer → Timer)
    (hf : ∀ rate t tm, tm.counter ≤ 15 → (f rate t tm).counter ≤ 15) (h : ∀ j : Fin 3, s.timers[j].counter ≤ 15)
    (j : Fin 3) : (s.onTimer i f).timers[j].counter ≤ 15 := by
  simp only [State.onTimer, Fin.getElem_fin, Vector.getElem_set]
  split
  · exact hf _ _ _ (h i)
  · exact h j

theorem memRead_counters (a : Word) (s : State) (h : ∀ i : Fin 3, s.timers[i].counter ≤ 15) (i : Fin 3) :
    (memRead a s).2.timers[i].counter ≤ 15 := by
  unfold memRead
  split
  · exact s.onTimer_counters _ (fun rate t tm => (tm.readCounter rate t).2) (fun _ _ _ _ => Nat.zero_le _) h i
  · dsimp only
    split <;> exact h i

theorem memWrite_counters (a : Word) (v : Byte) (s : State) (h : ∀ i : Fin 3, s.timers[i].counter ≤ 15) (i : Fin 3) :
    (memWrite a v s).timers[i].counter ≤ 15 := by
  unfold memWrite writeEffect
  split
  · have enable (k : Fin 3) (t : State) :=
      t.onTimer_counters k _ fun r n tm => Timer.setEnabled_counter_le r n (v.getLsbD k) tm
    exact enable 2 _ (enable 1 _ (enable 0 _ h)) i
  · split
    · exact State.onTimer_counters _ _ _ (fun r n tm => Timer.setDivisor_counter_le r n v tm) h i
    · split <;> exact h i

theorem memRead_cpuOk (a : Word) (s : State) (h : s.CpuOk) : (memRead a s).2.CpuOk :=
  ⟨memRead_wf a s h.ram, by simpa [State.flagsOk] using h.flags, memRead_counters a s h.counters⟩

theorem memWrite_cpuOk (a : Word) (v : Byte) (s : State) (h : s.CpuOk) : (memWrite a v s).CpuOk :=
  ⟨memWrite_wf a v s h.ram, by simpa [State.flagsOk] using h.flags, memWrite_counters a v s h.counters⟩

theorem State.hib_of_zero (s : State) (b : Bool) (h : s.params.hibPolicy = .zero) : s.hib b = false := by
  simp [State.hib_eq, h]

/-! ### What a body keeps -/

/-- From `s` to `t` the machine of `SameMachine` and the CPU's part of the invariant are kept, and `refund` cycles are
given back. -/
structure Keeps (refund : Nat) (s t : State) : Prop where
  machine : SameMachine s t
  time : t.time = s.time - refund
  cpu : s.CpuOk → t.CpuOk

/-- `Keeps`, and none of SP, P, B, I and `halted` is written, nor V and H under FLAG_PROFILE = spcjs. -/
structure Plain (refund : Nat) (s t : State) : Prop extends Keeps refund s t where
  sp : t.sp = s.sp
  halted : t.halted = s.halted
  flagP : t.flags.p = s.flags.p
  flagB : t.flags.b = s.flags.b
  flagI : t.flags.i = s.flags.i
  flagV : s.params.flagProfile = .spcjs → t.flags.v = s.flags.v
  flagH : s.params.flagProfile = .spcjs → t.flags.h = s.flags.h

theorem SameMachine.trans {s t u : State} (h : SameMachine s t) (k : SameMachine t u) : SameMachine s u :=
  ⟨k.target.trans h.target, k.fault.trans h.fault, k.everyOther.trans h.everyOther, k.rateCounter.trans h.rateCounter,
    k.konLatch.trans h.konLatch, k.kofLatch.trans h.kofLatch, k.voices.trans h.voices, k.phase.trans h.phase,
    k.frame.trans h.frame, k.params.trans h.params⟩

theorem Keeps.refl (s : State) : Keeps 0 s s := ⟨.refl s, rfl, id⟩

theorem Keeps.trans {n : Nat} {s t u : State} (h : Keeps 0 s t) (k : Keeps n t u) : Keeps n s u :=
  ⟨h.machine.trans k.machine, by rw [k.time, h.time, Nat.sub_zero], fun hs => k.cpu (h.cpu hs)⟩

theorem Plain.refl (s : State) : Plain 0 s s := ⟨.refl s, rfl, rfl, rfl, rfl, rfl, fun _ => rfl, fun _ => rfl⟩

theorem Plain.trans {n : Nat} {s t u : State} (h : Plain 0 s t) (k : Plain n t u) : Plain n s u where
  toKeeps := h.toKeeps.trans k.toKeeps
  sp := k.sp.trans h.sp
  halted := k.halted.trans h.halted
  flagP := k.flagP.trans h.flagP
  flagB := k.flagB.trans h.flagB
  flagI := k.flagI.trans h.flagI
  flagV hp := (k.flagV (h.machine.params ▸ hp)).trans (h.flagV hp)
  flagH hp := (k.flagH (h.machine.params ▸ hp)).trans (h.flagH hp)

theorem Plain.ite (p : Prop) [Decidable p] {s t u : State} (h : Plain 0 s t) (k : Plain 0 s u) :
    Plain 0 s (if p then t else u) := by
  split
  · exact h
  · exact k

/-! ### One rule per operation on the state -/

theorem Keeps.of_flags {s t : State} (he : t = { s with flags := t.flags }) (hf : s.flagsOk → t.flagsOk) :
    Keeps 0 s t where
  machine := by rw [he]; constructor <;> rfl
  time := by rw [he]; rfl
  cpu h := by
    have hf := hf h.flags
    rw [he] at hf ⊢
    exact ⟨h.ram, hf, h.counters⟩

/-- SP, PC and the registers are no part of the invariant. -/
theorem Keeps.of_regs {s t : State} (he : t = { s with a := t.a, x := t.x, y := t.y, sp := t.sp, pc := t.pc }) :
    Keeps 0 s t := by
  rw [he]
  exact ⟨by constructor <;> rfl, rfl, fun h => ⟨h.ram, h.flags, h.counters⟩⟩

theorem Plain.of_flags_eq {n : Nat} {s t : State} (h : Keeps n s t) (hsp : t.sp = s.sp) (hh : t.halted = s.halted)
    (hf : t.flags = s.flags) : Plain n s t :=
  ⟨h, hsp, hh, by rw [hf], by rw [hf], by rw [hf], fun _ => by rw [hf], fun _ => by rw [hf]⟩

theorem Plain.of_regs {s t : State} (he : t = { s with a := t.a, x := t.x, y := t.y, pc := t.pc }) : Plain 0 s t :=
  .of_flags_eq (.of_regs (by rw [he])) (by rw [he]) (by rw [he]) (by rw [he])

/-- C, N and Z are the flags that every profile writes. -/
theorem Plain.of_cnz {s t : State}
    (he : t = { s with flags := { s.flags with n := t.flags.n, z := t.flags.z, c := t.flags.c } })
    (hf : s.flagsOk → t.flagsOk) : Plain 0 s t where
  toKeeps := .of_flags (by rw [he]) hf
  sp := by rw [he]
  halted := by rw [he]
  flagP := by rw [he]
  flagB := by rw [he]
  flagI := by rw [he]
  flagV _ := by rw [he]
  flagH _ := by rw [he]

theorem memRead_keeps (a : Word) (s : State) : Plain 0 s (memRead a s).2 :=
  .of_flags_eq ⟨(memRead_steady a s).machine, memRead_snd_time a s, memRead_cpuOk a s⟩ (memRead_snd_sp a s)
    (memRead_snd_halted a s) (memRead_snd_flags a s)

theorem memWrite_keeps (a : Word) (v : Byte) (s : State) : Plain 0 s (memWrite a v s) := by
  obtain ⟨-, hflags, hsp, steady⟩ := memWrite_leaves a v s
  exact .of_flags_eq ⟨steady.machine, steady.time, memWrite_cpuOk a v s⟩ hsp steady.halted hflags

/-- N and Z written with values that are not both set. -/
theorem Plain.setNZ (n z : Bool) (h : ¬ (n = true ∧ z = true)) (s : State) :
    Plain 0 s { s with flags := { s.flags with n := n, z := z } } :=
  .of_cnz rfl fun ⟨_, hhib⟩ => ⟨h, hhib⟩

/-- A negative value is not 0 (R35). -/
theorem not_msb_and_eq_zero {n : Nat} (v : BitVec n) : ¬ (v.msb = true ∧ decide (v = 0) = true) := by
  rintro ⟨hm, hz⟩
  rw [of_decide_eq_true hz] at hm
  simp at hm

theorem setNZ8_keeps (v : Byte) (s : State) : Plain 0 s (setNZ8 v s) := .setNZ _ _ (not_msb_and_eq_zero v) s

theorem setNZ16_keeps (w : Word) (s : State) : Plain 0 s (setNZ16 w s) := .setNZ _ _ (not_msb_and_eq_zero w) s

/-- D49: N and Z of the unmasked sum `t`, which is 0 only where the result is. -/
theorem setNZ_raw_keeps {n : Nat} (t : Nat) (s : State) :
    Plain 0 s { s with flags := { s.flags with n := (BitVec.ofNat n t).msb, z := decide (t = 0) } } := by
  refine .setNZ _ _ ?_ s
  rintro ⟨hm, hz⟩
  exact not_msb_and_eq_zero (BitVec.ofNat n t) ⟨hm, by rw [of_decide_eq_true hz]; simp⟩

theorem setC_keeps (c : Bool) (s : State) : Plain 0 s (setC c s) := .of_cnz rfl id

theorem setReg_keeps (r : Reg8) (v : Byte) (s : State) : Plain 0 s (s.setReg r v) := .of_regs (by cases r <;> rfl)

theorem setYa_keeps (w : Word) (s : State) : Plain 0 s (s.setYa w) := .of_regs rfl

theorem setV_keeps (v : Bool) (s : State) : Keeps 0 s (setV v s) := .of_flags rfl id

theorem setP_keeps (p : Bool) (s : State) : Keeps 0 s (setP p s) := .of_flags rfl id

theorem setH_keeps (h : Bool) (s : State) : Keeps 0 s (setH h s) :=
  .of_flags rfl fun ⟨hnz, hhib⟩ =>
    ⟨hnz, fun hz => have ⟨hb, _, hi⟩ := hhib hz; ⟨hb, s.hib_of_zero h hz, hi⟩⟩

theorem setI_keeps (i : Bool) (s : State) : Keeps 0 s (setI i s) :=
  .of_flags rfl fun ⟨hnz, hhib⟩ =>
    ⟨hnz, fun hz => have ⟨hb, hh, _⟩ := hhib hz; ⟨hb, hh, s.hib_of_zero i hz⟩⟩

theorem unpackPsw_keeps (v : Byte) (s : State) : Keeps 0 s (s.unpackPsw v) :=
  .of_flags rfl fun _ =>
    ⟨by simp [State.unpackPsw], fun hz => ⟨s.hib_of_zero _ hz, s.hib_of_zero _ hz, s.hib_of_zero _ hz⟩⟩

/-- D7: V and H, which FLAG_PROFILE = hardware alone writes. -/
theorem hardwareVH_keeps (v h : Bool) (s : State) (hp : s.params.flagProfile = .hardware) :
    Plain 0 s (setH h (setV v s)) where
  toKeeps := (setV_keeps v s).trans (setH_keeps h _)
  sp := rfl
  halted := rfl
  flagP := rfl
  flagB := rfl
  flagI := rfl
  flagV hq := absurd (hp.symm.trans hq) (by decide)
  flagH hq := absurd (hp.symm.trans hq) (by decide)

/-! ### The operations built from them -/

theorem readWordDp_keeps (o : Byte) (s : State) : Plain 0 s (readWordDp o s).2 :=
  (memRead_keeps _ s).trans (memRead_keeps _ _)

theorem readWord_keeps (p : Word) (s : State) : Plain 0 s (readWord p s).2 :=
  (memRead_keeps _ s).trans (memRead_keeps _ _)

theorem jumpThrough_keeps (p : Word) (s : State) : Plain 0 s (jumpThrough p s) :=
  (readWord_keeps p s).trans (.of_regs rfl)

theorem Mode.ea_keeps (m : Mode) (s : State) : Plain 0 s (m.ea s).2 := by
  cases m with
  | dpXInd o => exact readWordDp_keeps _ s
  | dpIndY o => exact readWordDp_keeps o s
  | dp | dpX | dpY | indX | indY | abs | absX | absY => exact .refl s

theorem Source.read_keeps (src : Source) (s : State) : Plain 0 s (src.read s).2 := by
  cases src with
  | imm v => exact .refl s
  | mem m => exact (m.ea_keeps s).trans (memRead_keeps _ _)

theorem aluAdd_keeps (d src : Byte) (s : State) : Plain 0 s (aluAdd d src s).2 := by
  have hc := setC_keeps (decide (d.toNat + src.toNat + bitNat s.flags.c > 0xFF)) s
  have hnz (t : Nat) := Plain.ite (s.params.nzFromRawSum = true) (hc.trans (setNZ_raw_keeps (n := 8) t _))
    (hc.trans (setNZ8_keeps (BitVec.ofNat 8 t) _))
  unfold aluAdd
  dsimp only
  split
  · exact hnz _
  · rename_i hp
    exact (hnz _).trans (hardwareVH_keeps _ _ _ (by rw [(hnz _).machine.params, hp]))

theorem alu_keeps (op : AluOp) (d src : Byte) (s : State) : Plain 0 s (alu op d src s).2 := by
  cases op with
  | or | and | eor => exact setNZ8_keeps _ s
  | adc | sbc => exact aluAdd_keeps _ _ s

theorem wordAdd_keeps (ya w : Word) (cin : Nat) (s : State) : Plain 0 s (wordAdd ya w cin s).2 := by
  have hc := setC_keeps (decide (ya.toNat + w.toNat + cin > 0xFFFF)) s
  have hnz (t : Nat) := Plain.ite (s.params.nzFromRawSum = true) (hc.trans (setNZ_raw_keeps (n := 16) t _))
    (hc.trans (setNZ16_keeps (BitVec.ofNat 16 t) _))
  unfold wordAdd
  dsimp only
  split
  · exact hnz _
  · rename_i hp
    exact (hnz _).trans (hardwareVH_keeps _ _ _ (by rw [(hnz _).machine.params, hp]))

theorem aluCmp_keeps (d src : Byte) (s : State) : Plain 0 s (aluCmp d src s) :=
  (setC_keeps _ s).trans (setNZ8_keeps _ _)

theorem wordCmp_keeps (ya w : Word) (s : State) : Plain 0 s (wordCmp ya w s) :=
  (setC_keeps _ s).trans (setNZ16_keeps _ _)

theorem rmwFn_keeps (op : RmwOp) (v : Byte) (s : State) : Plain 0 s (rmwFn op v s).2 := by
  cases op with
  | asl | rol | lsr | ror => exact (setC_keeps _ s).trans (setNZ8_keeps _ _)
  | inc | dec => exact setNZ8_keeps _ s

theorem decimalAdd_keeps (s : State) : Plain 0 s (decimalAdd s) := by
  have ha := (Plain.of_regs rfl).trans (setC_keeps true { s with a := s.a + 0x60 })
  exact ((Plain.ite _ ha (.refl s)).trans (.ite _ (.of_regs rfl) (.refl _))).trans (setNZ8_keeps _ _)

theorem decimalSub_keeps (s : State) : Plain 0 s (decimalSub s) := by
  have ha := (Plain.of_regs rfl).trans (setC_keeps false { s with a := s.a - 0x60 })
  exact ((Plain.ite _ ha (.refl s)).trans (.ite _ (.of_regs rfl) (.refl _))).trans (setNZ8_keeps _ _)

theorem push_keeps (v : Byte) (s : State) : Keeps 0 s (push v s) := (memWrite_keeps _ v s).toKeeps.trans (.of_regs rfl)

theorem pop_keeps (s : State) : Keeps 0 s (pop s).2 :=
  (Keeps.of_regs (t := { s with sp := s.sp + 1 }) rfl).trans (memRead_keeps _ _).toKeeps

theorem pushPc_keeps (s : State) : Keeps 0 s (pushPc s) := (push_keeps _ s).trans (push_keeps _ _)

theorem popPc_keeps (s : State) : Keeps 0 s (popPc s) := ((pop_keeps s).trans (pop_keeps _)).trans (.of_regs rfl)

theorem tableCall_keeps (n : Fin 16) (s : State) : Keeps 0 s (tableCall n s) :=
  (pushPc_keeps s).trans (jumpThrough_keeps _ _).toKeeps

theorem enterBreak_keeps (s : State) : Keeps 0 s (enterBreak s) := by
  have flags (t : State) : Keeps 0 t { t with flags := { t.flags with b := t.hib true, i := false } } :=
    .of_flags rfl fun ⟨hnz, hhib⟩ =>
      ⟨hnz, fun hz => have ⟨_, hh, _⟩ := hhib hz; ⟨t.hib_of_zero true hz, hh, rfl⟩⟩
  have pushed := (pushPc_keeps s).trans (push_keeps (pushPc s).packPsw _)
  exact (pushed.trans (flags _)).trans (jumpThrough_keeps (tcallVector 0) _).toKeeps

theorem returnFromBreak_keeps (s : State) : Keeps 0 s (returnFromBreak s) :=
  ((pop_keeps s).trans (unpackPsw_keeps _ _)).trans (popPc_keeps _)

/-! ### The shapes of instruction -/

theorem load_keeps (r : Reg8) (src : Source) (s : State) : Plain 0 s (load r src s) :=
  ((src.read_keeps s).trans (setReg_keeps r _ _)).trans (setNZ8_keeps _ _)

theorem store_keeps (m : Mode) (r : Reg8) (s : State) : Plain 0 s (store m r s) :=
  (m.ea_keeps s).trans (memWrite_keeps _ _ _)

theorem moveTo_keeps (r : Reg8) (v : Byte) (s : State) : Plain 0 s (moveTo r v s) :=
  (setReg_keeps r v s).trans (setNZ8_keeps v _)

theorem aluA_keeps (op : AluOp) (src : Source) (s : State) : Plain 0 s (aluA op src s) :=
  ((src.read_keeps s).trans (alu_keeps op _ _ _)).trans (.of_regs rfl)

theorem aluMem_keeps (op : AluOp) (dst : Mode) (src : Source) (s : State) : Plain 0 s (aluMem op dst src s) :=
  ((((src.read_keeps s).trans (dst.ea_keeps _)).trans (memRead_keeps _ _)).trans (alu_keeps op _ _ _)).trans
    (memWrite_keeps _ _ _)

theorem cmpReg_keeps (r : Reg8) (src : Source) (s : State) : Plain 0 s (cmpReg r src s) :=
  (src.read_keeps s).trans (aluCmp_keeps _ _ _)

theorem cmpMem_keeps (dst : Mode) (src : Source) (s : State) : Plain 0 s (cmpMem dst src s) :=
  ((src.read_keeps s).trans ((Source.mem dst).read_keeps _)).trans (aluCmp_keeps _ _ _)

theorem rmwMem_keeps (op : RmwOp) (m : Mode) (s : State) : Plain 0 s (rmwMem op m s) :=
  (((m.ea_keeps s).trans (memRead_keeps _ _)).trans (rmwFn_keeps op _ _)).trans (memWrite_keeps _ _ _)

theorem rmwReg_keeps (op : RmwOp) (r : Reg8) (s : State) : Plain 0 s (rmwReg op r s) :=
  (rmwFn_keeps op _ s).trans (setReg_keeps r _ _)

theorem modifyAt_keeps (ea : Word) (f : Byte → Byte) (s : State) : Plain 0 s (modifyAt ea f s) :=
  (memRead_keeps ea s).trans (memWrite_keeps ea _ _)

theorem testAndModify_keeps (ea : Word) (f : Byte → Byte) (s : State) : Plain 0 s (testAndModify ea f s) :=
  ((memRead_keeps ea s).trans (setNZ8_keeps _ _)).trans (memWrite_keeps ea _ _)

theorem modifyWordDp_keeps (f : Word → Word) (o : Byte) (s : State) : Plain 0 s (modifyWordDp f o s) :=
  (((readWordDp_keeps o s).trans (memWrite_keeps _ _ _)).trans (memWrite_keeps _ _ _)).trans (setNZ16_keeps _ _)

theorem carryFromBit_keeps (f : Bool → Bool → Bool) (ea : Word) (b : Fin 8) (s : State) :
    Plain 0 s (carryFromBit f ea b s) :=
  (memRead_keeps ea s).trans (setC_keeps _ _)

/-- R410: a branch keeps the machine too, with the refund of 2 cycles where it is not taken. -/
theorem branch_keeps (c : Bool) (rel : Byte) (s : State) : Plain (if c then 0 else 2) s (branch c rel s) := by
  obtain ⟨branched, -, hflags, hsp, -⟩ := branch_runs c rel s
  refine .of_flags_eq ⟨branched.machine, ?_, fun h => ?_⟩ hsp branched.halted hflags
  · rw [branched.time]
    cases c <;> rfl
  · exact ⟨by simpa using h.ram, by simpa [State.flagsOk] using h.flags, by simpa using h.counters⟩

theorem branchOnBit_keeps (want : Bool) (b : Fin 8) (o rel : Byte) (s : State) :
    let m := memRead (dpAddr o s) s
    Plain (if m.1.getLsbD b == want then 0 else 2) s (branchOnBit want b o rel s) :=
  (memRead_keeps _ s).trans (branch_keeps _ rel _)

theorem compareAndBranch_keeps (m : Mode) (rel : Byte) (s : State) :
    let v := (Source.mem m).read s
    Plain (if v.2.a != v.1 then 0 else 2) s (compareAndBranch m rel s) :=
  ((Source.mem m).read_keeps s).trans (branch_keeps _ rel _)

end Sys2Proof.Machine
end

section
/-! PROOFS. The 256 bodies by the kind of change they make, and what follows for every instruction. -/

namespace Sys2Proof.Machine

/-! ### What an instruction does -/

/-- The bodies that are not `Plain`: `t` is `s` after instruction `i`, which writes SP, P, V, B, H or I under every
FLAG_PROFILE, or halts. -/
inductive Writer : Instr → State → State → Prop where
  | movSpX {s} : Writer .movSpX s { s with sp := s.x }
  | push {i s} (v : Byte) (h : ∃ f ∈ pushForms, i = f.instr) : Writer i s (push v s)
  | popReg {i s} (r : Reg8) (h : ∃ f ∈ popForms, i = f.instr) : Writer i s ((pop s).2.setReg r (pop s).1)
  | popPsw {s} : Writer .popPsw s ((pop s).2.unpackPsw (pop s).1)
  | call {s} (m : Word) : Writer (.call m) s { pushPc s with pc := m }
  | pcall {s} (up : Byte) : Writer (.pcall up) s { pushPc s with pc := Word.mk 0xFF up }
  | tableCall {i s} (n : Fin 16) (h : ∃ f ∈ tcallForms, i = f.instr) : Writer i s (tableCall n s)
  | ret {s} : Writer .ret s (popPc s)
  | setP {i s} (p : Bool) (h : i = .clrp ∨ i = .setp) : Writer i s (setP p s)
  | div {s t} (v : Bool) (h : Plain 0 (setV v s) t) : Writer .div s t
  | clrv {s} : Writer .clrv s (setH false (setV false s))
  | setI {i s} (b : Bool) (h : i = .ei ∨ i = .di) : Writer i s (setI b s)
  | brk {s} : Writer .brk s (enterBreak s)
  | reti {s} : Writer .reti s (returnFromBreak s)
  | halt {i s} (h : i = .sleep ∨ i = .stop) : Writer i s { s with halted := true }

/-- The three kinds of body: `t` is `s` after instruction `i`. -/
inductive BodyCase (i : Instr) (s t : State) : Prop where
  | plain (h : Plain 0 s t)
  | branch (taken : Bool) (h : Plain (if taken then 0 else 2) s t)
  | writer (h : Writer i s t)

/-- R401: after V, DIV writes A, Y, N and Z, and H under FLAG_PROFILE = hardware. -/
theorem execDiv_keeps (s : State) : ∃ t, execDiv s = .next t ∧ Plain 0 (setV (decide (s.y ≥ s.x)) s) t := by
  refine ⟨_, rfl, ?_⟩
  dsimp only
  split
  · exact (Plain.of_regs rfl).trans (setNZ8_keeps _ _)
  · rename_i hp
    refine Plain.trans ?_ ((Plain.of_regs rfl).trans (setNZ8_keeps _ _))
    exact hardwareVH_keeps (decide (s.y ≥ s.x)) _ (setV (decide (s.y ≥ s.x)) s) hp

/-- R177: every body runs to a next state, by the shape it has. -/
theorem exec_cases (i : Instr) (s : State) : ∃ t, exec i s = .next t ∧ BodyCase i s t := by
  cases i with
  | movYImm | movXImm | movADp | movAAbs | movAIndX | movADpXInd | movAImm | movXAbs | movYDp | movYAbs
  | movADpX | movAAbsX | movAAbsY | movADpIndY | movXDp | movXDpY | movYDpX =>
    exact ⟨_, rfl, .plain (load_keeps _ _ s)⟩
  | movDpFromA | movAbsFromA | movIndXFromA | movDpXIndFromA | movAbsFromX | movDpFromY | movAbsFromY
  | movDpXFromA | movAbsXFromA | movAbsYFromA | movDpIndYFromA | movDpFromX | movDpYFromX | movDpXFromY =>
    exact ⟨_, rfl, .plain (store_keeps _ _ s)⟩
  | movXA | movAX | movXSp | xcn | movAY | movYA => exact ⟨_, rfl, .plain (moveTo_keeps _ _ s)⟩
  | orADp | orAAbs | orAIndX | orADpXInd | orAImm | orADpX | orAAbsX | orAAbsY | orADpIndY | andADp | andAAbs
  | andAIndX | andADpXInd | andAImm | andADpX | andAAbsX | andAAbsY | andADpIndY | eorADp | eorAAbs | eorAIndX
  | eorADpXInd | eorAImm | eorADpX | eorAAbsX | eorAAbsY | eorADpIndY | adcADp | adcAAbs | adcAIndX
  | adcADpXInd | adcAImm | adcADpX | adcAAbsX | adcAAbsY | adcADpIndY | sbcADp | sbcAAbs | sbcAIndX
  | sbcADpXInd | sbcAImm | sbcADpX | sbcAAbsX | sbcAAbsY | sbcADpIndY => exact ⟨_, rfl, .plain (aluA_keeps _ _ s)⟩
  | orDdSs | orDpImm | orIndXIndY | andDdSs | andDpImm | andIndXIndY | eorDdSs | eorDpImm | eorIndXIndY
  | adcDdSs | adcDpImm | adcIndXIndY | sbcDdSs | sbcDpImm | sbcIndXIndY =>
    exact ⟨_, rfl, .plain (aluMem_keeps _ _ _ s)⟩
  | cmpXAbs | cmpXDp | cmpYAbs | cmpADp | cmpAAbs | cmpAIndX | cmpADpXInd | cmpAImm | cmpADpX | cmpAAbsX
  | cmpAAbsY | cmpADpIndY | cmpYDp | cmpYImm | cmpXImm => exact ⟨_, rfl, .plain (cmpReg_keeps _ _ s)⟩
  | cmpDdSs | cmpDpImm | cmpIndXIndY => exact ⟨_, rfl, .plain (cmpMem_keeps _ _ s)⟩
  | aslDp | aslAbs | aslDpX | rolDp | rolAbs | rolDpX | lsrDp | lsrAbs | lsrDpX | rorDp | rorAbs | rorDpX
  | decDp | decAbs | decDpX | incDp | incAbs | incDpX => exact ⟨_, rfl, .plain (rmwMem_keeps _ _ s)⟩
  | aslA | decX | rolA | incX | lsrA | rorA | decA | incA | decY | incY => exact ⟨_, rfl, .plain (rmwReg_keeps _ _ s)⟩
  | set1Bit0 | clr1Bit0 | set1Bit1 | clr1Bit1 | set1Bit2 | clr1Bit2 | set1Bit3 | clr1Bit3 | set1Bit4 | clr1Bit4
  | set1Bit5 | clr1Bit5 | set1Bit6 | mov1MbFromC | clr1Bit6 | set1Bit7 | not1 | clr1Bit7 =>
    exact ⟨_, rfl, .plain (modifyAt_keeps _ _ s)⟩
  | tset1 | tclr1 => exact ⟨_, rfl, .plain (testAndModify_keeps _ _ s)⟩
  | decw | incw => exact ⟨_, rfl, .plain (modifyWordDp_keeps _ _ s)⟩
  | or1CMb | or1CNotMb | and1CMb | and1CNotMb | eor1CMb | mov1CMb =>
    exact ⟨_, rfl, .plain (carryFromBit_keeps _ _ _ s)⟩
  | clrc | setc | notc => exact ⟨_, rfl, .plain (setC_keeps _ s)⟩
  | daa => exact ⟨_, rfl, .plain (decimalAdd_keeps s)⟩
  | das => exact ⟨_, rfl, .plain (decimalSub_keeps s)⟩
  | nop => exact ⟨_, rfl, .plain (.refl s)⟩
  | jmpAbsXInd => exact ⟨_, rfl, .plain (jumpThrough_keeps _ s)⟩
  | jmpAbs => exact ⟨_, rfl, .plain (.of_regs rfl)⟩
  | movAIndXInc => exact ⟨_, rfl, .plain ((load_keeps _ _ s).trans (.of_regs rfl))⟩
  | movIndXIncFromA => exact ⟨_, rfl, .plain ((store_keeps _ _ s).trans (.of_regs rfl))⟩
  | movDdSs dd ss => exact ⟨_, rfl, .plain (((Source.mem (.dp ss)).read_keeps s).trans (memWrite_keeps _ _ _))⟩
  | movDpImm => exact ⟨_, rfl, .plain (memWrite_keeps _ _ s)⟩
  | movwYaDp => exact ⟨_, rfl, .plain (((readWordDp_keeps _ s).trans (setYa_keeps _ _)).trans (setNZ16_keeps _ _))⟩
  | movwDpYa => exact ⟨_, rfl, .plain ((memWrite_keeps _ _ s).trans (memWrite_keeps _ _ _))⟩
  | addw | subw =>
    exact ⟨_, rfl, .plain (((readWordDp_keeps _ s).trans (wordAdd_keeps _ _ _ _)).trans (setYa_keeps _ _))⟩
  | cmpw => exact ⟨_, rfl, .plain ((readWordDp_keeps _ s).trans (wordCmp_keeps _ _ _))⟩
  | mul => exact ⟨_, rfl, .plain ((setYa_keeps _ s).trans (setNZ8_keeps _ _))⟩
  | bpl | bra | bmi | bvc | bvs | bcc | bcs | bne | beq => exact ⟨_, rfl, .branch _ (branch_keeps _ _ s)⟩
  | bbsBit0 | bbcBit0 | bbsBit1 | bbcBit1 | bbsBit2 | bbcBit2 | bbsBit3 | bbcBit3 | bbsBit4 | bbcBit4 | bbsBit5
  | bbcBit5 | bbsBit6 | bbcBit6 | bbsBit7 | bbcBit7 => exact ⟨_, rfl, .branch _ (branchOnBit_keeps _ _ _ _ s)⟩
  | cbneDp | cbneDpX => exact ⟨_, rfl, .branch _ (compareAndBranch_keeps _ _ s)⟩
  | dbnzDp =>
    exact ⟨_, rfl, .branch _ (((memRead_keeps _ s).trans (memWrite_keeps _ _ _)).trans (branch_keeps _ _ _))⟩
  | dbnzY => exact ⟨_, rfl, .branch _ ((Plain.of_regs rfl).trans (branch_keeps _ _ _))⟩
  | movSpX => exact ⟨_, rfl, .writer .movSpX⟩
  | ret => exact ⟨_, rfl, .writer .ret⟩
  | popPsw => exact ⟨_, rfl, .writer .popPsw⟩
  | clrv => exact ⟨_, rfl, .writer .clrv⟩
  | brk => exact ⟨_, rfl, .writer .brk⟩
  | reti => exact ⟨_, rfl, .writer .reti⟩
  | div =>
    obtain ⟨t, ht, h⟩ := execDiv_keeps s
    exact ⟨t, ht, .writer (.div _ h)⟩
  | call => exact ⟨_, rfl, .writer (.call _)⟩
  | pcall => exact ⟨_, rfl, .writer (.pcall _)⟩
  | clrp | setp => exact ⟨_, rfl, .writer (.setP _ (by simp))⟩
  | ei | di => exact ⟨_, rfl, .writer (.setI _ (by simp))⟩
  | sleep | stop => exact ⟨_, rfl, .writer (.halt (by simp))⟩
  | pushPsw | pushA | pushX | pushY => exact ⟨_, rfl, .writer (.push _ (by simp [pushForms]))⟩
  | popA | popX | popY => exact ⟨_, rfl, .writer (.popReg _ (by simp [popForms]))⟩
  | tcall0 | tcall1 | tcall2 | tcall3 | tcall4 | tcall5 | tcall6 | tcall7 | tcall8 | tcall9 | tcall10 | tcall11
  | tcall12 | tcall13 | tcall14 | tcall15 => exact ⟨_, rfl, .writer (.tableCall _ (by simp [tcallForms]))⟩

theorem Writer.keeps {i : Instr} {s t : State} (h : Writer i s t) : Keeps 0 s t := by
  cases h with
  | movSpX => exact .of_regs rfl
  | push v => exact push_keeps v s
  | popReg r => exact (pop_keeps s).trans (setReg_keeps r _ _).toKeeps
  | popPsw => exact (pop_keeps s).trans (unpackPsw_keeps _ _)
  | call | pcall => exact (pushPc_keeps s).trans (.of_regs rfl)
  | tableCall n => exact tableCall_keeps n s
  | ret => exact popPc_keeps s
  | setP p => exact setP_keeps p s
  | div v h => exact (setV_keeps v s).trans h.toKeeps
  | clrv => exact (setV_keeps false s).trans (setH_keeps false _)
  | setI b => exact setI_keeps b s
  | brk => exact enterBreak_keeps s
  | reti => exact returnFromBreak_keeps s
  | halt => exact ⟨by constructor <;> rfl, rfl, fun h => ⟨h.ram, h.flags, h.counters⟩⟩

theorem BodyCase.of_exec {i : Instr} {s t : State} (h : exec i s = .next t) : BodyCase i s t := by
  obtain ⟨u, hu, hc⟩ := exec_cases i s
  rw [hu] at h
  exact Host.Outcome.next.inj h ▸ hc

/-- R177, R410: what every body keeps; a branch gives back at most 2 cycles. -/
theorem exec_keeps {i : Instr} {s t : State} (h : exec i s = .next t) : ∃ n, (n = 0 ∨ n = 2) ∧ Keeps n s t := by
  cases BodyCase.of_exec h with
  | plain h => exact ⟨0, .inl rfl, h.toKeeps⟩
  | branch taken h => exact ⟨_, by cases taken <;> simp, h.toKeeps⟩
  | writer h => exact ⟨0, .inl rfl, h.keeps⟩

/-- Settles O11: a plain body writes none of the six, and each of the others is named by its clause. -/
theorem registerWriters : Obligations.RegisterWriters := by
  intro i s t he hp
  cases BodyCase.of_exec he with
  | plain h | branch _ h =>
    exact ⟨absurd h.sp, absurd h.flagP, absurd (h.flagV hp), absurd h.flagB, absurd (h.flagH hp), absurd h.flagI⟩
  | writer h =>
    cases h with
    | movSpX | call | pcall | ret | reti | halt => simp
    | push v h | popReg r h => simp [h]
    | popPsw => simp [popForms]
    | tableCall n h => simp [h, tableCall]
    | setP p h | setI b h => rcases h with rfl | rfl <;> simp
    | div v h =>
      have hsp : t.sp = s.sp := h.sp
      have hfp : t.flags.p = s.flags.p := h.flagP
      have hb : t.flags.b = s.flags.b := h.flagB
      have hh : t.flags.h = s.flags.h := h.flagH hp
      have hi : t.flags.i = s.flags.i := h.flagI
      simp [hsp, hfp, hb, hh, hi]
    | clrv => simp [setV, setH]
    | brk => simp [enterBreak]

end Sys2Proof.Machine
end

section
/-! PROOFS. The voices keep their ranges, through every part of a voice step (R700) and of a sample (R770). -/

namespace Sys2Proof.Machine

/-! ### The voices -/

/-- The clauses of `Voice.Ok` about the ring: it holds its 12 samples twice, each of 16 bits signed. -/
structure Voice.RingOk (vo : Voice) : Prop where
  mirror : ∀ i, i < 12 → vo.slot (i + 12) = vo.slot i
  range : ∀ i, -32768 ≤ vo.slot i ∧ vo.slot i ≤ 32767

theorem wrap16_bounds (v : Int) : -32768 ≤ wrap16 v ∧ wrap16 v ≤ 32767 := by
  unfold wrap16
  omega

/-- R752, R753: a nibble is stored as one sample, in a slot and in its mirror, and the cursor moves on. -/
theorem brrNibble_eq (hdr : Byte) (nibble : Nat) (vo : Voice) :
    ∃ d, (-32768 ≤ d ∧ d ≤ 32767) ∧ brrNibble hdr nibble vo =
      { vo with
        ring := (vo.ring.setIfInBounds vo.wpos d).setIfInBounds (vo.wpos + 12) d
        wpos := vo.wpos + 1 } :=
  ⟨_, wrap16_bounds _, rfl⟩

theorem brrNibble_ringOk (hdr : Byte) (nibble : Nat) (vo : Voice) (h : vo.wpos < 12) (hr : vo.RingOk) :
    ∃ r, brrNibble hdr nibble vo = { vo with ring := r, wpos := vo.wpos + 1 } ∧
      Voice.RingOk { vo with ring := r, wpos := vo.wpos + 1 } := by
  obtain ⟨d, hd, he⟩ := brrNibble_eq hdr nibble vo
  refine ⟨_, he, ?_⟩
  rw [← he]
  have hslot (i : Nat) :
      (brrNibble hdr nibble vo).slot i = if i = vo.wpos ∨ i = vo.wpos + 12 then d else vo.slot i := by
    rw [he]
    simp only [Voice.slot, Vector.getElem?_setIfInBounds]
    grind
  refine ⟨fun i hi => ?_, fun i => ?_⟩
  · rw [hslot, hslot, hr.mirror i hi]
    grind
  · rw [hslot]
    split
    · exact hd
    · exact hr.range i

/-- R750: four nibbles fill four slots. -/
theorem brrNibble_four (hdr : Byte) (n1 n2 n3 n4 : Nat) (vo : Voice) (h : vo.wpos + 3 < 12) (hr : vo.RingOk) :
    ∃ r, brrNibble hdr n4 (brrNibble hdr n3 (brrNibble hdr n2 (brrNibble hdr n1 vo))) =
        { vo with ring := r, wpos := vo.wpos + 4 } ∧
      Voice.RingOk { vo with ring := r, wpos := vo.wpos + 4 } := by
  obtain ⟨_, h1, ok1⟩ := brrNibble_ringOk hdr n1 vo (by omega) hr
  obtain ⟨_, h2, ok2⟩ := brrNibble_ringOk hdr n2 _ (by dsimp only; omega) ok1
  obtain ⟨_, h3, ok3⟩ := brrNibble_ringOk hdr n3 _ (by dsimp only; omega) ok2
  obtain ⟨r, h4, ok4⟩ := brrNibble_ringOk hdr n4 _ (by dsimp only; omega) ok3
  exact ⟨r, by rw [h1, h2, h3, h4], ok4⟩

/-- R754: after its four nibbles the cursor is at a multiple of 4 again. -/
theorem brrDecode_ok (hdr d1 d2 : Byte) (vo : Voice) (h : vo.Ok) : (brrDecode hdr d1 d2 vo).Ok := by
  have hw := h.wpos
  obtain ⟨r, he, ring⟩ := brrNibble_four hdr (d1.toNat / 16) (d1.toNat % 16) (d2.toNat / 16) (d2.toNat % 16) vo
    (by omega) ⟨h.mirror, h.range⟩
  unfold brrDecode
  simp only [he]
  split
  · exact { h with wpos := .inl rfl, mirror := ring.mirror, range := ring.range }
  · exact { h with wpos := by dsimp only; omega, mirror := ring.mirror, range := ring.range }

theorem brrAdvance_ok (s : State) (v : Fin 8) (hdr : Byte) (vo : Voice) (h : vo.Ok) : (brrAdvance s v hdr vo).Ok := by
  unfold brrAdvance
  dsimp only
  split
  · split
    · split
      · exact { h with brrOff := .inl rfl }
      · exact { h with brrOff := .inl rfl, env := Nat.zero_le _, pend := Nat.zero_le _ }
    · exact { h with brrOff := .inl rfl }
  · refine { h with brrOff := ?_ }
    have := h.brrOff
    dsimp only
    omega

theorem blockStep_ok (s : State) (v : Fin 8) (hdr : Byte) (vo : Voice) (h : vo.Ok) : (blockStep s v hdr vo).Ok :=
  brrAdvance_ok s v hdr _ (brrDecode_ok hdr _ _ vo h)

theorem accumulate_ok (s : State) (v : Fin 8) (r : VoiceRun) (h : r.vo.Ok) : (accumulate s v r).Ok := by
  have hi : ({ r.vo with interp := min (r.vo.interp % 0x4000 + r.pitch) 0x7FFF } : Voice).Ok :=
    { h with interp := Nat.min_le_right _ _ }
  unfold accumulate
  dsimp only
  split
  · exact blockStep_ok s v r.hdr _ hi
  · exact hi

theorem keyOnDelay_ok (s : State) (v : Fin 8) (r : VoiceRun) (h : r.vo.Ok) : (keyOnDelay s v r).vo.Ok := by
  have hk : r.vo.konDelay - 1 ≤ 5 := by have := h.konDelay; omega
  have hi : (if (r.vo.konDelay - 1) % 4 ≠ 0 then 0x4000 else 0) ≤ 0x7FFF := by split <;> decide
  unfold keyOnDelay
  split
  · exact h
  · dsimp only
    split
    · exact { h with konDelay := hk, brrOff := .inl rfl, wpos := .inl rfl, env := Nat.zero_le _, pend := Nat.zero_le _,
                     interp := hi }
    · exact { h with konDelay := hk, env := Nat.zero_le _, pend := Nat.zero_le _, interp := hi }

theorem keyOnOff_ok (s : State) (v : Fin 8) (vo : Voice) (h : vo.Ok) : (keyOnOff s v vo).Ok := by
  have release : (if s.kofLatch.getLsbD v then { vo with mode := .release } else vo).Ok := by
    split
    · exact { h with }
    · exact h
  unfold keyOnOff
  split
  · dsimp only
    split
    · exact { release with konDelay := Nat.le_refl 5 }
    · exact release
  · exact h

theorem releaseStep_ok (vo : Voice) (h : vo.Ok) : (releaseStep vo).Ok := by
  have he : vo.env - 8 ≤ 0x7FF := by have := h.env; omega
  unfold releaseStep
  split
  · exact { h with env := Nat.zero_le _, pend := Nat.zero_le _, brrOff := .inl rfl }
  · exact { h with env := he, pend := he }

/-- R725: the new amplitude is clamped. -/
theorem adsrStep_pend (p : Params) (a1 a2 : Byte) (rc : Nat) (vo : Voice) : (adsrStep p a1 a2 rc vo).pend ≤ 0x7FF := by
  simp only [adsrStep]
  split_ifs <;> omega

theorem adsrStep_ok (p : Params) (a1 a2 : Byte) (rc : Nat) (vo : Voice) (h : vo.Ok) : (adsrStep p a1 a2 rc vo).Ok := by
  have hp := adsrStep_pend p a1 a2 rc vo
  have he : (adsrStep p a1 a2 rc vo).env =
      if p.rateFires (envelopeTarget a1 a2 vo).1 rc then (adsrStep p a1 a2 rc vo).pend else vo.env := rfl
  refine { h with env := ?_, pend := hp }
  rw [he]
  split
  · exact hp
  · exact h.env

theorem envelopeStep_ok {s : State} {v : Fin 8} {vo vo' : Voice} (h : vo.Ok) (he : envelopeStep s v vo = .ok vo') :
    vo'.Ok := by
  unfold envelopeStep at he
  split at he
  · cases he; exact h
  · split at he
    · cases he; exact releaseStep_ok vo h
    · split at he
      · cases he; exact adsrStep_ok _ _ _ _ vo h
      · cases he

theorem voiceStep_ok {s : State} {v : Fin 8} {vo : Voice} {l r : Int} (h : s.voices[v].Ok)
    (hd : voiceStep s v = .done vo l r) : vo.Ok := by
  have hr := keyOnDelay_ok s v (voiceFetch s v) h
  unfold voiceStep at hd
  dsimp only at hd
  split at hd
  · cases hd
  · split at hd
    · cases hd
    · rename_i he
      cases hd
      exact accumulate_ok s v _ (envelopeStep_ok (keyOnOff_ok s v _ hr) he)

/-! ### The sample -/

/-- R775, R776: the voices of a sample keep their ranges, and only they, the frame and the phase change. -/
theorem runVoices_next {vs : List (Fin 8)} {lsum rsum : Int} {s t : State} (h : ∀ v : Fin 8, s.voices[v].Ok)
    (hr : runVoices vs lsum rsum s = .next t) :
    (∀ v : Fin 8, t.voices[v].Ok) ∧ t = { s with voices := t.voices, frame := t.frame, phase := .idle } := by
  induction vs generalizing lsum rsum s with
  | nil => cases hr; exact ⟨h, rfl⟩
  | cons v vs ih =>
    unfold runVoices at hr
    split at hr
    · rename_i vo l r hv
      have hset (w : Fin 8) : (s.setVoice v vo).voices[w].Ok := by
        simp only [State.setVoice_voices, Fin.getElem_fin, Vector.getElem_set]
        split
        · exact voiceStep_ok (h v) hv
        · exact h w
      exact ih (s := s.setVoice v vo) hset hr
    · cases hr

end Sys2Proof.Machine
end

section
/-! PROOFS. Every step of the machine keeps the invariant. -/

namespace Sys2Proof.Machine

/-! ### The loop and the step -/

/-- R180: an opcode costs 2 to 12 cycles. -/
theorem opCycles_bounds (op : Byte) : 2 ≤ opCycles op ∧ opCycles op ≤ 12 :=
  (by decide +kernel : ∀ o ∈ opTable, 2 ≤ o.cycles ∧ o.cycles ≤ 12) _ (List.getElem_mem _)

theorem State.Inv.cpuOk {s : State} (h : s.Inv) : s.CpuOk := ⟨h.ram, h.flags, h.counters⟩

/-- The invariant, where the CPU's part is kept and the rest is seen to be unchanged, but for the time. -/
theorem State.Inv.of_sameMachine {s t : State} (h : s.Inv) (hm : SameMachine s t) (hc : t.CpuOk) (ht : t.timeOk) :
    t.Inv where
  ram := hc.ram
  flags := hc.flags
  counters := hc.counters
  rateCounter := hm.rateCounter ▸ h.rateCounter
  voices := hm.voices ▸ h.voices
  time := ht

theorem fetch_keeps (a : Word) (s : State) : Plain 0 s (fetch a s).2 := by
  unfold fetch
  split
  · exact memRead_keeps a s
  · exact .refl s

theorem fetchOperands_keeps (op : Byte) (s : State) : Plain 0 s (fetchOperands op s).2.2 := by
  unfold fetchOperands
  cases (opInfo op).layout with
  | one | two => exact (fetch_keeps _ s).trans (.of_regs rfl)
  | three => exact ((fetch_keeps _ s).trans (fetch_keeps _ _)).trans (.of_regs rfl)

/-- R170, R770: opening a call moves the target one sample period away. -/
theorem openCall_inv {s : State} (h : s.Inv) (hp : s.phase = .idle) : (openCall s).Inv := by
  obtain ⟨hle, hlag⟩ := h.time
  have hlag : s.target ≤ s.time + 11 := by simpa [hp] using hlag
  have hfar : s.target + 32 ≤ s.time + 43 := by omega
  exact { h with time := ⟨Nat.le_add_right_of_le hle, hfar⟩ }

/-- R170, R172: a run that ends at most 11 cycles before the target. -/
theorem endRun_inv {s : State} (h : s.Inv) (hlag : s.target ≤ s.time + 11) : (endRun s).Inv :=
  { h with time := ⟨h.time.1, hlag⟩ }

/-- R173-R177: an instruction that fits takes the time forward, by its cost or 2 cycles less, and not past the target. -/
theorem runInstr_inv {op : Byte} {opaddr : Word} {s t : State} (h : s.Inv) (hp : s.phase = .cpu)
    (hfit : s.time + opCycles op ≤ s.target) (hr : runInstr op opaddr s = .next t) : t.Inv := by
  have hf := fetchOperands_keeps op (commitCost op s)
  unfold runInstr at hr
  dsimp only at hr
  split at hr
  · obtain ⟨n, hn, hk⟩ := exec_keeps hr
    have hk := hf.toKeeps.trans hk
    have hm : SameMachine s t := { hk.machine with }
    refine h.of_sameMachine hm (hk.cpu ⟨h.ram, h.flags, h.counters⟩) ?_
    have hcost := opCycles_bounds op
    have htime : t.time = s.time + opCycles op - n := hk.time
    have hlag := h.time.2
    simp only [State.timeOk, hm.target, hm.phase, hp, htime, reduceIte] at hlag ⊢
    omega
  · cases hr

/-- R170-R177: a round of the loop, inside a run. -/
theorem cpuStep_inv {s t : State} (h : s.Inv) (hp : s.phase = .cpu) (hr : cpuStep s = .next t) : t.Inv := by
  have hcost := opCycles_bounds (fetch s.pc s).1
  have hf := fetch_keeps s.pc s
  have ht := h.time.1
  unfold cpuStep at hr
  split at hr
  · cases hr
    have atTarget : State.Inv { s with time := s.target } :=
      { h with time := ⟨Nat.le_refl _, Nat.le_add_right _ _⟩ }
    exact endRun_inv atTarget (Nat.le_add_right _ _)
  · split at hr
    · dsimp only at hr
      have hi : (fetch s.pc s).2.Inv :=
        h.of_sameMachine hf.machine (hf.cpu h.cpuOk) (by simpa [State.timeOk] using h.time)
      split at hr
      · rename_i hdefer
        cases hr
        exact endRun_inv hi (by omega)
      · rename_i hfit
        exact runInstr_inv hi (by simpa using hp) (Nat.le_of_not_gt hfit) hr
    · cases hr
      exact endRun_inv h (by omega)

/-- R772, R773: the flag, the latches and the DSP bank are no part of the invariant. -/
theorem latchKeys_inv {s : State} (h : s.Inv) : (latchKeys s).Inv := by
  unfold latchKeys
  split
  · exact { h with }
  · exact { h with }

theorem stepRateCounter_inv {s : State} (h : s.Inv) : (stepRateCounter s).Inv := by
  refine { h with rateCounter := ?_ }
  have := h.rateCounter
  simp only [stepRateCounter, rateCounterTop]
  split <;> omega

/-- R770: parts 2-5 of the sample; the CPU's time stays as the run left it. -/
theorem dspSample_inv {s t : State} (h : s.Inv) (hp : s.phase = .dsp) (hr : dspSample s = .next t) : t.Inv := by
  have hu := stepRateCounter_inv (latchKeys_inv h)
  have hphase : (stepRateCounter (latchKeys s)).phase = .dsp := by
    unfold latchKeys
    split <;> exact hp
  obtain ⟨hv, ht⟩ := runVoices_next hu.voices hr
  obtain ⟨hle, hlag⟩ := hu.time
  rw [hphase] at hlag
  rw [ht]
  exact { hu with voices := hv, time := ⟨hle, hlag⟩ }

/-- Settles O56: a round of the loop keeps the invariant by what every body keeps, a sample by what every voice keeps. -/
theorem stepKeepsInvariant : Obligations.StepKeepsInvariant := by
  intro s t h hs
  unfold step at hs
  split at hs
  · rename_i r _
    cases r <;> cases hs
  · unfold advance at hs
    split at hs
    · rename_i hp
      exact cpuStep_inv (openCall_inv h hp) rfl hs
    · rename_i hp
      exact cpuStep_inv h hp hs
    · rename_i hp
      exact dspSample_inv h hp hs

end Sys2Proof.Machine
end

section
/-! PROOFS. Memory: what a read and a write do at every address of the window (R101, R102), and the effective address of
every addressing mode (R103-R121). -/

namespace Sys2Proof.Machine

/-! ### The timers behind the window -/

/-- R50: the counter registers are 0x00FD-0x00FF. -/
theorem counterOf_eq_some {a : Word} {i : Fin 3} : counterOf a = some i ↔ a.toNat = 0xFD + i := by
  unfold counterOf
  fin_cases i <;> (split_ifs <;> simp <;> bv_omega)

/-- R49: the divisor registers are 0x00FA-0x00FC. -/
theorem divisorOf_eq_some {a : Word} {i : Fin 3} : divisorOf a = some i ↔ a.toNat = 0xFA + i := by
  unfold divisorOf
  fin_cases i <;> (split_ifs <;> simp <;> bv_omega)

theorem State.onTimer_timers (s : State) (i : Fin 3) (f : Nat → Nat → Timer → Timer) (j : Fin 3) :
    (s.onTimer i f).timers[j] = if i = j then f (timerRate j) s.time s.timers[j] else s.timers[j] := by
  simp only [State.onTimer, Fin.getElem_fin, Vector.getElem_set, Fin.val_inj]
  split
  next h => rw [h]
  next => rfl

/-! ### Reads -/

theorem memRead_counter {a : Word} {i : Fin 3} (s : State) (h : counterOf a = some i) :
    memRead a s = ((s.readCounter i).1, (s.readCounter i).2.poke a (s.readCounter i).1) := by
  unfold memRead
  rw [h]

theorem memRead_dspDataPort (s : State) :
    memRead dspDataPort s = (s.dspReg (s.peek dspAddrPort), s.poke dspDataPort (s.dspReg (s.peek dspAddrPort))) := rfl

theorem State.dspReg_eq_getD (s : State) (i : Byte) : s.dspReg i = s.dspRegs[i.toNat % 128]?.getD 0 := by
  rw [Vector.getElem?_eq_getElem (Nat.mod_lt _ (by decide))]
  rfl

/-- Settles O12: one rule for each kind of address, the byte and the frame from the rules that hold of every read. -/
theorem memReadRule : Obligations.MemReadRule := by
  intro a s
  refine ⟨memRead_eq a s, memRead_value a s, fun b => memRead_other a b s, fun i hi => ?_, ?_, memRead_plain a s⟩
  · rw [memRead_counter s (counterOf_eq_some.mpr hi)]
    exact ⟨rfl, rfl⟩
  · rintro rfl
    rw [← State.dspReg_eq_getD]
    exact ⟨congrArg (·.1.toNat) (memRead_dspDataPort s), congrArg (·.2.timers) (memRead_dspDataPort s)⟩

/-! ### Writes -/

theorem writeEffect_control_timers (v : Byte) (s : State) (i : Fin 3) :
    (writeEffect controlAddr v s).timers[i] = s.timers[i].setEnabled (timerRate i) s.time (v.getLsbD i) := by
  unfold writeEffect
  simp only [reduceIte, State.onTimer_timers, State.onTimer_time]
  fin_cases i <;> simp

theorem writeEffect_divisor {a : Word} {i : Fin 3} (v : Byte) (s : State) (h : divisorOf a = some i) :
    writeEffect a v s = s.onTimer i fun rate t tm => tm.setDivisor rate t v := by
  have hc : a ≠ controlAddr := by
    rintro rfl
    exact absurd h (by simp [divisorOf, controlAddr])
  unfold writeEffect
  rw [if_neg hc, h]

theorem writeEffect_timers_of_ne {a : Word} (v : Byte) (s : State) (hc : a ≠ controlAddr) (hd : divisorOf a = none) :
    (writeEffect a v s).timers = s.timers := by
  unfold writeEffect
  rw [if_neg hc, hd]
  dsimp only
  split <;> rfl

/-- R102: the timers after a write to any address. -/
theorem writeEffect_timers (a : Word) (v : Byte) (s : State) (i : Fin 3) :
    (writeEffect a v s).timers[i] =
      if a = 0x00F1 then s.timers[i].setEnabled (timerRate i) s.time (v.getLsbD i)
      else if a.toNat = 0xFA + i then s.timers[i].setDivisor (timerRate i) s.time v
      else s.timers[i] := by
  split
  next h => rw [h]; exact writeEffect_control_timers v s i
  next h =>
    simp only [← divisorOf_eq_some]
    cases hd : divisorOf a with
    | some j => simp only [writeEffect_divisor v s hd, State.onTimer_timers, Option.some.injEq]
    | none => simp [writeEffect_timers_of_ne v s h hd]

theorem writeEffect_dspDataPort (v : Byte) (s : State) :
    writeEffect dspDataPort v s =
      if s.peek dspAddrPort < 0x80 then s.setDspReg (s.peek dspAddrPort) v else s := by
  simp [writeEffect, divisorOf, dspDataPort, controlAddr]

theorem writeEffect_dspRegs_of_ne {a : Word} (v : Byte) (s : State) (h : a ≠ dspDataPort) :
    (writeEffect a v s).dspRegs = s.dspRegs := by
  unfold writeEffect
  split
  · rfl
  · split
    · rfl
    · rw [if_neg fun hp => h hp.1]

/-- R46, R102: register `k` takes a byte written to the data port when the address port names it; the indexes from 0x80 on
name none. -/
theorem writeEffect_dspRegs (a : Word) (v : Byte) (s : State) (k : Fin 128) :
    (writeEffect a v s).dspRegs[k] =
      if a = 0x00F3 ∧ (s.peek 0x00F2).toNat = k then v else s.dspRegs[k] := by
  by_cases h : a = dspDataPort
  · subst h
    rw [writeEffect_dspDataPort]
    split
    next hlt =>
      have hmod : (s.peek dspAddrPort).toNat % 128 = (s.peek dspAddrPort).toNat := Nat.mod_eq_of_lt hlt
      simp only [State.setDspReg, Fin.getElem_fin, Vector.getElem_set, hmod]
      exact if_congr (and_iff_right rfl).symm rfl rfl
    next hge =>
      refine (if_neg fun hk => hge ?_).symm
      exact BitVec.lt_def.mpr (hk.2 ▸ k.isLt)
  · rw [writeEffect_dspRegs_of_ne v s h, if_neg fun hp => h hp.1]

theorem memWrite_eq (a : Word) (v : Byte) (s : State) :
    memWrite a v s =
      { s with
        ram := (memWrite a v s).ram
        timers := (memWrite a v s).timers
        dspRegs := (memWrite a v s).dspRegs } := by
  rw [memWrite, writeEffect_eq]
  rfl

/-- Settles O13: the byte is stored before the effect, and the store to the data port leaves the address port as it is. -/
theorem memWriteRule : Obligations.MemWriteRule := by
  intro a v s
  refine ⟨memWrite_eq a v s, memWrite_peek a v s, writeEffect_timers a v (s.poke a v), fun k => ?_⟩
  have hport : a = 0x00F3 → (s.poke a v).peek 0x00F2 = s.peek 0x00F2 := by
    rintro rfl
    rw [State.peek_poke, if_neg (by decide)]
  rw [memWrite, writeEffect_dspRegs, State.poke_dspRegs]
  exact if_congr (and_congr_right fun h => by rw [hport h]) rfl rfl

/-! ### The direct page and the effective addresses -/

/-- R103: the address of the direct-page offset `n`, which wraps in the page P selects. -/
def State.directPage (s : State) (n : Nat) : Nat := (if s.flags.p then 0x100 else 0) + n % 0x100

theorem dpAddr_toNat (s : State) {o : Byte} {n : Nat} (h : o.toNat = n % 0x100) :
    (dpAddr o s).toNat = s.directPage n := by
  rw [State.directPage, ← h, dpAddr, Word.mk, BitVec.toNat_append, Nat.shiftLeft_eq, Nat.mul_comm,
    ← Nat.two_pow_add_eq_or_of_lt o.isLt]
  split <;> rfl

theorem dpAddr_eq_ofNat (s : State) {o : Byte} {n : Nat} (h : o.toNat = n % 0x100) :
    dpAddr o s = BitVec.ofNat 16 (s.directPage n) := by
  rw [← dpAddr_toNat s h, BitVec.ofNat_toNat, BitVec.setWidth_eq]

/-- R104: the direct-page word is made of the bytes at an offset and at the next one in the page, the low byte read first. -/
theorem readWordDp_eq (o : Byte) (s : State) :
    readWordDp o s =
      let lo := memRead (BitVec.ofNat 16 (s.directPage o.toNat)) s
      let hi := memRead (BitVec.ofNat 16 (s.directPage (o.toNat + 1))) lo.2
      (Word.mk hi.1 lo.1, hi.2) := by
  have hlo : dpAddr o s = BitVec.ofNat 16 (s.directPage o.toNat) :=
    dpAddr_eq_ofNat s (Nat.mod_eq_of_lt o.isLt).symm
  have hhi : dpAddr (o + 1) s = BitVec.ofNat 16 (s.directPage (o.toNat + 1)) :=
    dpAddr_eq_ofNat s (BitVec.toNat_add o 1)
  unfold readWordDp
  simp only [dpAddr_congr (o + 1) (memRead_snd_flags _ s), hlo, hhi]

/-- R118, R119: an index added to an address wraps in 16 bits. -/
theorem toNat_add_index (w : Word) (i : Byte) : (w + i.setWidth 16).toNat = (w.toNat + i.toNat) % 0x10000 := by
  rw [BitVec.toNat_add, BitVec.toNat_setWidth_of_le (by decide)]

/-- Settles O14: mode by mode; the pointer modes through the direct-page word. -/
theorem addressingModes : Obligations.AddressingModes := by
  intro s o m
  refine ⟨fun mode n h => ?_, readWordDp_eq o s, readWordDp_eq (o + s.x) s, ?_, ?_⟩
  · have hdp (v : Byte) : (dpAddr v s).toNat = s.directPage v.toNat := dpAddr_toNat s (Nat.mod_eq_of_lt v.isLt).symm
    have hdpIndexed (i : Byte) : (dpAddr (o + i) s).toNat = s.directPage (o.toNat + i.toNat) :=
      dpAddr_toNat s (BitVec.toNat_add o i)
    simp only [List.mem_cons, Prod.mk.injEq, List.not_mem_nil, or_false] at h
    rcases h with h | h | h | h | h | h | h | h <;> obtain ⟨rfl, rfl⟩ := h
    · exact ⟨hdp o, rfl⟩
    · exact ⟨hdpIndexed s.x, rfl⟩
    · exact ⟨hdpIndexed s.y, rfl⟩
    · exact ⟨hdp s.x, rfl⟩
    · exact ⟨hdp s.y, rfl⟩
    · exact ⟨rfl, rfl⟩
    · exact ⟨toNat_add_index m s.x, rfl⟩
    · exact ⟨toNat_add_index m s.y, rfl⟩
  · rw [Mode.ea]
    dsimp only
    rw [toNat_add_index, readWordDp_snd_y, readWordDp_eq]
    rfl
  · exact congrArg (·.2) (readWordDp_eq o s)

end Sys2Proof.Machine
end

section
/-! PROOFS. The encoding (R150-R159): decoding undoes encoding instruction by instruction, and encoding undoes decoding
because each cell of the opcode map builds the instructions of its own opcode. -/

namespace Sys2Proof

/-! ### The operand bytes (R10, R152, R500) -/

theorem Word.mk_hi_lo (w : Word) : Word.mk w.hi w.lo = w := BitVec.extractLsb'_append_extractLsb'

theorem Word.hi_mk (hi lo : Byte) : (Word.mk hi lo).hi = hi := BitVec.extractLsb'_append_eq_left

theorem Word.lo_mk (hi lo : Byte) : (Word.mk hi lo).lo = lo := BitVec.extractLsb'_append_eq_right

/-- R500: the mask of the 13-bit address keeps five bits of the high byte. -/
theorem bitAddr_eq (b1 b2 : Byte) : bitAddr b1 b2 = Word.mk (b2 &&& 0x1F) b1 := by
  have mask : (0x1FFF : Word) = Word.mk 0x1F (BitVec.allOnes 8) := rfl
  rw [bitAddr, mask, Word.mk, Word.mk, BitVec.and_append, BitVec.and_allOnes]

theorem bitAddr_lo (b1 b2 : Byte) : (bitAddr b1 b2).lo = b1 := by rw [bitAddr_eq, Word.lo_mk]

theorem bitAddrOk_bitAddr (b1 b2 : Byte) : bitAddrOk (bitAddr b1 b2) = true := by
  have h : (bitAddr b1 b2).toNat ≤ 0x1FFF := by
    rw [bitAddr, BitVec.toNat_and]
    exact Nat.and_le_right
  exact decide_eq_true (Nat.lt_succ_of_le h)

theorem bitNumber_bitHigh (b1 : Byte) (m : Word) (bit : Fin 8) : bitNumber b1 (bitHigh m bit) = bit := by
  rw [bitNumber, bitHigh, BitVec.extractLsb'_append_eq_left]

/-- R152: the third byte is the bit number over the five low bits of the address's high byte. -/
theorem bitHigh_mk (hi lo : Byte) (bit : Fin 8) :
    bitHigh (Word.mk hi lo) bit = (BitVec.ofFin bit : BitVec 3) ++ hi.extractLsb' 0 5 := by
  rw [bitHigh, Word.mk, BitVec.extractLsb'_append_eq_of_le (by decide)]

theorem append_and_0x1F (x : BitVec 3) (y : BitVec 5) : (x ++ y) &&& 0x1F = 0#3 ++ y := by
  have mask : (0x1F : Byte) = 0#3 ++ BitVec.allOnes 5 := rfl
  rw [mask, BitVec.and_append, BitVec.and_zero, BitVec.and_allOnes]

theorem bitHigh_bitAddr (b1 b2 : Byte) : bitHigh (bitAddr b1 b2) (bitNumber b1 b2) = b2 := by
  have low : (b2 &&& 0x1F).extractLsb' 0 5 = b2.extractLsb' 0 5 := by
    rw [BitVec.extractLsb'_and]
    exact BitVec.and_allOnes
  rw [bitAddr_eq, bitHigh_mk, low]
  exact BitVec.extractLsb'_append_extractLsb'

/-- R500: the high byte of a 13-bit address has nothing above its five low bits. -/
theorem hi_and_0x1F {m : Word} (h : bitAddrOk m = true) : m.hi &&& 0x1F = m.hi := by
  have hm : m.toNat < 0x2000 := of_decide_eq_true h
  have hhi : m.hi.toNat < 2 ^ 5 := by
    rw [BitVec.extractLsb'_toNat, Nat.shiftRight_eq_div_pow]
    omega
  apply BitVec.eq_of_toNat_eq
  rw [BitVec.toNat_and]
  exact Nat.and_two_pow_sub_one_of_lt_two_pow hhi

theorem bitAddr_bitHigh {m : Word} (bit : Fin 8) (h : bitAddrOk m = true) : bitAddr m.lo (bitHigh m bit) = m := by
  have split : m.hi = m.hi.extractLsb' 5 3 ++ m.hi.extractLsb' 0 5 :=
    (BitVec.extractLsb'_append_extractLsb' (w := 3) (len := 5)).symm
  have low : bitHigh m bit &&& 0x1F = m.hi &&& 0x1F := by
    rw [← m.mk_hi_lo, bitHigh_mk, append_and_0x1F, Word.hi_mk, split, append_and_0x1F, ← split]
  rw [bitAddr_eq, low, hi_and_0x1F h, Word.mk_hi_lo]

/-! ### Decoding by the layout of the opcode -/

/-- R151, R152: the operand bytes of an opcode with this layout. -/
def Layout.operands (b1 b2 : Byte) : Layout → List Byte
  | .one _ => []
  | .two _ => [b1]
  | .three _ => [b1, b2]

/-- R151: of two bytes some are operand bytes and the others come after them. -/
theorem Layout.operands_append_drop (b1 b2 : Byte) (l : Layout) :
    l.operands b1 b2 ++ [b1, b2].drop (l.length - 1) = [b1, b2] := by
  cases l <;> rfl

/-- R150, R151: what decodes is an opcode with its operand bytes, and the instruction is built from them. -/
theorem decode_eq_ok {bs : List Byte} {i : Instr} {rest : List Byte} :
    decode bs = .ok (i, rest) ↔
      ∃ op b1 b2, (opInfo op).layout.build b1 b2 = i ∧ bs = op :: ((opInfo op).layout.operands b1 b2 ++ rest) := by
  constructor
  · intro h
    unfold decode at h
    split at h
    · cases h
    · rename_i op _
      split at h
      next hl => cases h; exact ⟨op, 0, 0, by simp [hl, Layout.build, Layout.operands]⟩
      next b1 _ hl => cases h; exact ⟨op, b1, 0, by simp [hl, Layout.build, Layout.operands]⟩
      next b1 b2 _ hl => cases h; exact ⟨op, b1, b2, by simp [hl, Layout.build, Layout.operands]⟩
      all_goals cases h
  · rintro ⟨op, b1, b2, rfl, rfl⟩
    cases hl : (opInfo op).layout <;> simp [decode, hl, Layout.operands, Layout.build]

/-- R159: three bytes always decode, to what the cell of the opcode builds from the other two. -/
theorem decode_three (op b1 b2 : Byte) :
    decode [op, b1, b2] = .ok ((opInfo op).layout.build b1 b2, [b1, b2].drop (opLength op - 1)) :=
  decode_eq_ok.mpr ⟨op, b1, b2, rfl, by rw [opLength, Layout.operands_append_drop]⟩

theorem build_of_decode {op b1 b2 : Byte} {i : Instr} {rest : List Byte} (h : decode [op, b1, b2] = .ok (i, rest)) :
    (opInfo op).layout.build b1 b2 = i := by
  rw [decode_three] at h
  cases h
  rfl

/-- R174, R175: only a three-byte opcode uses the third byte. -/
theorem build_third_byte {op : Byte} (h : opLength op ≠ 3) (b1 b2 b2' : Byte) :
    (opInfo op).layout.build b1 b2 = (opInfo op).layout.build b1 b2' := by
  unfold opLength at h
  cases hl : (opInfo op).layout with
  | one | two => rfl
  | three f => exact absurd (hl ▸ rfl) h

/-! ### The cells of the opcode map -/

/-- What a layout builds is well formed and is encoded by `op` and the operand bytes. -/
def Layout.EncodedBy (op : Byte) (l : Layout) : Prop :=
  ∀ b1 b2, (l.build b1 b2).WellFormed ∧ encode (l.build b1 b2) = op :: l.operands b1 b2

/-- R150: the first byte of an instruction's encoding. -/
def Instr.opcode (i : Instr) : Byte := (encode i).headD 0

/-- The layout the opcode map has at an instruction's opcode builds the instruction, if it is well formed, and whatever it
builds is encoded by that opcode. -/
structure Instr.Mapped (i : Instr) : Prop where
  built : i.WellFormed → ∃ b1 b2, (opInfo i.opcode).layout.build b1 b2 = i
  encoded : (opInfo i.opcode).layout.EncodedBy i.opcode

theorem Instr.Mapped.of_layout {i : Instr} {l : Layout} (hl : (opInfo i.opcode).layout = l)
    (he : l.EncodedBy i.opcode) (b1 b2 : Byte) (hb : l.build b1 b2 = i) : i.Mapped where
  built _ := ⟨b1, b2, by rw [hl, hb]⟩
  encoded := by rwa [hl]

/-- R152: `op_abs`, the address low byte first. -/
theorem Instr.Mapped.of_abs {g : Word → Instr} {m : Word} {op : Byte}
    (he : ∀ m, encode (g m) = [op, m.lo, m.hi]) (hw : ∀ m, (g m).WellFormed)
    (hl : (opInfo op).layout = .three fun lo hi => g (Word.mk hi lo)) : (g m).Mapped := by
  have ho : (g m).opcode = op := by rw [Instr.opcode, he]; rfl
  rw [← ho] at hl
  refine .of_layout hl (fun lo hi => ?_) m.lo m.hi (congrArg g m.mk_hi_lo)
  refine ⟨hw (Word.mk hi lo), ?_⟩
  rw [Layout.build, he, Word.lo_mk, Word.hi_mk, ho, Layout.operands]

/-- R152: `op_mb`, the one layout whose instructions can be ill-formed. -/
theorem Instr.Mapped.of_mb {g : Word → Fin 8 → Instr} {m : Word} {bit : Fin 8} {op : Byte}
    (he : ∀ m bit, encode (g m bit) = [op, m.lo, bitHigh m bit]) (hw : ∀ m bit, (g m bit).wellFormed = bitAddrOk m)
    (hl : (opInfo op).layout = .three fun b1 b2 => g (bitAddr b1 b2) (bitNumber b1 b2)) : (g m bit).Mapped := by
  have ho : (g m bit).opcode = op := by rw [Instr.opcode, he]; rfl
  constructor
  · intro h
    refine ⟨m.lo, bitHigh m bit, ?_⟩
    rw [ho, hl, Layout.build, bitAddr_bitHigh bit ((hw m bit).symm.trans h), bitNumber_bitHigh]
  · rw [ho, hl]
    refine fun b1 b2 => ⟨(hw _ _).trans (bitAddrOk_bitAddr b1 b2), ?_⟩
    rw [Layout.build, he, bitAddr_lo, bitHigh_bitAddr, Layout.operands]

/-- R158: every instruction, by its operands (R152): none, a byte, two bytes, an address, an address and a bit number. -/
theorem Instr.mapped (i : Instr) : i.Mapped := by
  cases i with
  | nop | tcall0 | orAIndX | pushPsw | brk | tcall1 | orIndXIndY | aslA | decX | clrp | tcall2 | andAIndX | pushA
  | tcall3 | andIndXIndY | rolA | incX | setp | tcall4 | eorAIndX | pushX | tcall5 | eorIndXIndY | lsrA | movXA
  | clrc | tcall6 | cmpAIndX | pushY | ret | tcall7 | cmpIndXIndY | rorA | movAX | reti | setc | tcall8 | adcAIndX
  | popPsw | tcall9 | adcIndXIndY | decA | movXSp | div | xcn | ei | tcall10 | sbcAIndX | popA | movIndXIncFromA
  | tcall11 | sbcIndXIndY | incA | movSpX | das | movAIndXInc | di | tcall12 | movIndXFromA | popX | mul | tcall13
  | decY | movAY | daa | clrv | tcall14 | movAIndX | notc | popY | sleep | tcall15 | incY | movYA | stop =>
    exact .of_layout (l := .one _) rfl (fun _ _ => ⟨rfl, rfl⟩) 0 0 rfl
  | set1Bit0 | orADp | orADpXInd | orAImm | aslDp | bpl | clr1Bit0 | orADpX | orADpIndY | decw | aslDpX | set1Bit1
  | andADp | andADpXInd | andAImm | rolDp | bra | bmi | clr1Bit1 | andADpX | andADpIndY | incw | rolDpX | cmpXDp
  | set1Bit2 | eorADp | eorADpXInd | eorAImm | lsrDp | pcall | bvc | clr1Bit2 | eorADpX | eorADpIndY | cmpw | lsrDpX
  | set1Bit3 | cmpADp | cmpADpXInd | cmpAImm | rorDp | bvs | clr1Bit3 | cmpADpX | cmpADpIndY | addw | rorDpX
  | cmpYDp | set1Bit4 | adcADp | adcADpXInd | adcAImm | decDp | movYImm | bcc | clr1Bit4 | adcADpX | adcADpIndY
  | subw | decDpX | set1Bit5 | sbcADp | sbcADpXInd | sbcAImm | incDp | cmpYImm | bcs | clr1Bit5 | sbcADpX
  | sbcADpIndY | movwYaDp | incDpX | set1Bit6 | movDpFromA | movDpXIndFromA | cmpXImm | movDpFromY | movXImm | bne
  | clr1Bit6 | movDpXFromA | movDpIndYFromA | movDpFromX | movDpYFromX | movwDpYa | movDpXFromY | set1Bit7 | movADp
  | movADpXInd | movAImm | movYDp | beq | clr1Bit7 | movADpX | movADpIndY | movXDp | movXDpY | movYDpX | dbnzY =>
    exact .of_layout (l := .two _) rfl (fun _ _ => ⟨rfl, rfl⟩) _ 0 rfl
  | bbsBit0 | bbcBit0 | bbsBit1 | cbneDp | bbcBit1 | bbsBit2 | bbcBit2 | bbsBit3 | dbnzDp | bbcBit3 | bbsBit4
  | bbcBit4 | bbsBit5 | bbcBit5 | bbsBit6 | bbcBit6 | cbneDpX | bbsBit7 | bbcBit7 | orDdSs | orDpImm | andDdSs
  | andDpImm | eorDdSs | eorDpImm | cmpDdSs | cmpDpImm | adcDdSs | movDpImm | adcDpImm | sbcDdSs | sbcDpImm
  | movDdSs =>
    exact .of_layout (l := .three _) rfl (fun _ _ => ⟨rfl, rfl⟩) _ _ rfl
  | orAAbs | aslAbs | tset1 | orAAbsX | orAAbsY | cmpXAbs | jmpAbsXInd | andAAbs | rolAbs | andAAbsX | andAAbsY
  | call | eorAAbs | lsrAbs | tclr1 | eorAAbsX | eorAAbsY | cmpYAbs | jmpAbs | cmpAAbs | rorAbs | cmpAAbsX
  | cmpAAbsY | adcAAbs | decAbs | adcAAbsX | adcAAbsY | sbcAAbs | incAbs | sbcAAbsX | sbcAAbsY | movAbsFromA
  | movAbsFromX | movAbsFromY | movAbsXFromA | movAbsYFromA | movAAbs | movXAbs | movYAbs | movAAbsX | movAAbsY =>
    exact .of_abs (fun _ => rfl) (fun _ => rfl) rfl
  | or1CMb | or1CNotMb | and1CMb | and1CNotMb | eor1CMb | mov1CMb | mov1MbFromC | not1 =>
    exact .of_mb (fun _ _ => rfl) (fun _ _ => rfl) rfl

/-- R153, R158: the instructions built in the cells have their opcodes in order, each of the 256 once. -/
theorem opTable_opcodes : opTable.map (fun o => (o.layout.build 0 0).opcode.toNat) = List.range 256 := by
  decide +kernel

theorem opcode_build_zero (op : Byte) : ((opInfo op).layout.build 0 0).opcode = op := by
  have cell := List.getElem_of_eq opTable_opcodes (i := op.toNat) (by simp [opTable_length, op.isLt])
  rw [List.getElem_map, List.getElem_range] at cell
  rw [opInfo]
  exact BitVec.eq_of_toNat_eq cell

theorem opInfo_encodedBy (op : Byte) : (opInfo op).layout.EncodedBy op := by
  have h := ((opInfo op).layout.build 0 0).mapped.encoded
  rwa [opcode_build_zero] at h

theorem encode_build_length (op b1 b2 : Byte) : (encode ((opInfo op).layout.build b1 b2)).length = opLength op := by
  obtain ⟨-, he⟩ := opInfo_encodedBy op b1 b2
  rw [he, opLength]
  cases (opInfo op).layout <;> rfl

/-! ### Decoding and encoding -/

/-- Settles O1: the cell of an instruction's opcode builds it from the bytes that encode it. -/
theorem decodeEncode : Obligations.DecodeEncode := by
  intro i hw rest
  obtain ⟨b1, b2, hb⟩ := i.mapped.built hw
  obtain ⟨-, he⟩ := i.mapped.encoded b1 b2
  rw [hb] at he
  exact decode_eq_ok.mpr ⟨i.opcode, b1, b2, hb, by rw [he]; rfl⟩

/-- Settles O2: each cell of the opcode map encodes what it builds by its own opcode. -/
theorem encodeDecode : Obligations.EncodeDecode := by
  refine ⟨fun bs i rest h => ?_, fun op b1 b2 => ?_⟩
  · obtain ⟨op, b1, b2, rfl, rfl⟩ := decode_eq_ok.mp h
    obtain ⟨hw, he⟩ := opInfo_encodedBy op b1 b2
    exact ⟨hw, by rw [he]; rfl⟩
  · exact ⟨_, _, decode_three op b1 b2⟩

/-- Settles O3: each word is the encoding of its instruction. -/
theorem decodeWords : Obligations.DecodeWords := by
  unfold Obligations.DecodeWords
  exact ⟨rfl, rfl, rfl, rfl, rfl, rfl, rfl, rfl, rfl, rfl, rfl, rfl⟩

end Sys2Proof
end

section
/-! PROOFS. One round of the loop (R170-R176, R181, R182): when it ends the run, and what an instruction does. -/

namespace Sys2Proof.Machine

/-! ### The ends of a round -/

theorem cpuStep_of_halted {u : State} (h : u.halted = true) :
    cpuStep u = .next { u with time := u.target, phase := .dsp } := by
  rw [cpuStep, if_pos h]
  rfl

theorem cpuStep_of_target {u : State} (h : u.halted = false) (ht : u.target ≤ u.time) :
    cpuStep u = .next { u with phase := .dsp } := by
  simp [cpuStep, h, Nat.not_lt.mpr ht, endRun]

/-- R172: the deferral, after the fetch of the opcode. -/
theorem cpuStep_of_not_fits {u : State} (h : u.halted = false) (ht : u.time < u.target)
    (hfit : ¬ Fits (fetch u.pc u).1 u) : cpuStep u = .next { (fetch u.pc u).2 with phase := .dsp } := by
  have past : u.target < u.time + opCycles (fetch u.pc u).1 := Nat.lt_of_not_le hfit
  simp [cpuStep, h, ht, past, endRun]

theorem cpuStep_eq_runInstr {u : State} (h : u.halted = false) (ht : u.time < u.target) (hfit : Fits (fetch u.pc u).1 u) :
    cpuStep u = runInstr (fetch u.pc u).1 u.pc (fetch u.pc u).2 := by
  have fits : ¬ u.target < u.time + opCycles (fetch u.pc u).1 := Nat.not_lt.mpr hfit
  simp [cpuStep, h, ht, fits]

/-! ### An instruction that fits -/

/-- R173-R176: the commit, the operand fetches and the IMPLEMENTED check of an instruction that fits. -/
theorem runInstr_eq (op : Byte) (a : Word) (s : State) :
    runInstr op a s =
      let f1 := fetch (s.pc + 1) { s with time := s.time + opCycles op }
      let f2 := if opLength op = 3 then fetch (s.pc + 2) f1.2 else (0, f1.2)
      let t := { f2.2 with pc := s.pc + BitVec.ofNat 16 (opLength op) }
      if s.params.implements op then exec ((opInfo op).layout.build f1.1 f2.1) t
      else (FaultRecord.unknownOpcode op a).raise t := by
  unfold runInstr
  rw [fetchOperands_eq]
  dsimp only [commitCost]
  by_cases hl : opLength op = 3 <;> simp [hl]

/-- R171-R176: a round of the loop with an instruction that fits. -/
theorem cpuStep_of_fits {u : State} (h : u.halted = false) (ht : u.time < u.target)
    (hfit : Fits (fetch u.pc u).1 u) :
    cpuStep u =
      let f0 := fetch u.pc u
      let f1 := fetch (u.pc + 1) { f0.2 with time := u.time + opCycles f0.1 }
      let f2 := if opLength f0.1 = 3 then fetch (u.pc + 2) f1.2 else (0, f1.2)
      let t := { f2.2 with pc := u.pc + BitVec.ofNat 16 (opLength f0.1) }
      if u.params.implements f0.1 then exec ((opInfo f0.1).layout.build f1.1 f2.1) t
      else (FaultRecord.unknownOpcode f0.1 u.pc).raise t := by
  rw [cpuStep_eq_runInstr h ht hfit, runInstr_eq]
  simp only [fetch_pc, fetch_time, fetch_params]

/-- R174, R175: the same where the three bytes at PC are read plainly: no fetch changes the machine. -/
theorem cpuStep_of_plain {u : State} (h : u.halted = false) (ht : u.time < u.target) (hfit : Fits (u.peek u.pc) u)
    (himp : u.params.implements (u.peek u.pc) = true)
    (hplain : ∀ b ∈ [u.pc, u.pc + 1, u.pc + 2], refreshed b = false) :
    cpuStep u =
      exec ((opInfo (u.peek u.pc)).layout.build (u.peek (u.pc + 1)) (u.peek (u.pc + 2)))
        { u with
          time := u.time + opCycles (u.peek u.pc)
          pc := u.pc + BitVec.ofNat 16 (opLength (u.peek u.pc)) } := by
  have plain {b : Word} (hb : b ∈ [u.pc, u.pc + 1, u.pc + 2]) (t : State) : fetch b t = (t.peek b, t) :=
    fetch_plain b t (hplain b hb)
  have h0 : fetch u.pc u = (u.peek u.pc, u) := plain (by simp) u
  rw [cpuStep_of_fits h ht (by rw [h0]; exact hfit)]
  dsimp only
  rw [h0, plain (by simp), plain (by simp), if_pos himp]
  by_cases hl : opLength (u.peek u.pc) = 3
  · simp only [if_pos hl]
    rfl
  · simp only [if_neg hl, build_third_byte hl _ (u.peek (u.pc + 2)) 0]
    rfl

/-! ### The steps of a running machine -/

/-- Settles O5: the fetches are those of the round, and the fetched bytes build the instruction they decode to. -/
theorem stepFetchesInOrder : Obligations.StepFetchesInOrder := by
  refine ⟨fun a s => rfl, ?_⟩
  intro s hf hh hp u ht f0 f1 f2 i rest hd himp hfit
  rw [step_cpu s hf hp, cpuStep_of_fits ((inCall_halted s).trans hh) ht hfit]
  exact (if_pos himp).trans (congrArg (exec · _) (build_of_decode hd))

/-- Settles O8: the fault of an opcode that fits and is not in IMPLEMENTED. -/
theorem unknownOpcodeFaults : Obligations.UnknownOpcodeFaults := by
  intro s hf hh hp u ht f0 f1 f2 himp hfit
  rw [step_cpu s hf hp, cpuStep_of_fits ((inCall_halted s).trans hh) ht hfit]
  exact if_neg (Bool.eq_false_iff.mp himp)

/-- Settles O4: plain fetches leave the machine as it is, and LEN is the number of bytes of the encoding. -/
theorem stepRunsDecoded : Obligations.StepRunsDecoded := by
  intro s hf hh hp u ht hplain i rest hd himp hfit
  obtain rfl := build_of_decode hd
  rw [step_cpu s hf hp, encode_build_length]
  exact cpuStep_of_plain ((inCall_halted s).trans hh) ht hfit himp hplain

theorem fetch_sameRegs (a : Word) (s : State) : SameRegs s (fetch a s).2 := by
  rw [fetch_eq]
  exact .of_eq rfl rfl rfl

/-- Settles O6: a fetch only reads, and a plain one changes nothing. -/
theorem deferralLeavesState : Obligations.DeferralLeavesState := by
  intro s hf hh hp u ht hfit t
  have hk := fetch_keeps u.pc u
  have hr := fetch_readOnly u.pc u
  have hstep : step s = .next t := by
    rw [step_cpu s hf hp, cpuStep_of_not_fits ((inCall_halted s).trans hh) ht hfit]
  refine ⟨hstep, ⟨hr.bytes, hr.bank, hr.timers⟩, fetch_sameRegs u.pc u, hk.sp, fetch_flags _ _, ?_, ?_⟩
  · exact ⟨fetch_pc _ _, hk.time, hk.halted, { hk.machine with phase := rfl }⟩
  · rintro (h | h)
    · simp [t, fetch_plain u.pc u h]
    · simp [t, fetch, h]

/-- Settles O7: the two ends of a round that fetch nothing. -/
theorem runEnds : Obligations.RunEnds := by
  intro s hf hp u
  rw [step_cpu s hf hp]
  exact ⟨fun hh => cpuStep_of_halted ((inCall_halted s).trans hh),
    fun hh ht => cpuStep_of_target ((inCall_halted s).trans hh) ht⟩

end Sys2Proof.Machine
end

section
/-! PROOFS. What no instruction touches (R177). -/

namespace Sys2Proof.Machine

/-- R516, R517: of the bodies that are not `Plain` only SLEEP's and STOP's halt. -/
theorem Writer.halted {i : Instr} {s t : State} (h : Writer i s t) :
    t.halted = s.halted ∨ t.halted = true ∧ (i = .sleep ∨ i = .stop) := by
  cases h with
  | halt h => exact .inr ⟨rfl, h⟩
  | div v h => exact .inl h.halted
  | tableCall n => exact .inl (by simp [Machine.tableCall])
  | brk => exact .inl (by simp [enterBreak])
  | reti => exact .inl (by simp [returnFromBreak])
  | movSpX | push | popReg | popPsw | call | pcall | ret | setP | clrv | setI => exact .inl (by simp)

theorem BodyCase.halted {i : Instr} {s t : State} (h : BodyCase i s t) :
    t.halted = s.halted ∨ t.halted = true ∧ (i = .sleep ∨ i = .stop) := by
  cases h with
  | plain h | branch _ h => exact .inl h.halted
  | writer h => exact h.halted

/-- Settles O10: every body keeps the machine, and the halting ones are known. -/
theorem bodiesRun : Obligations.BodiesRun := by
  intro i s
  obtain ⟨t, he, hc⟩ := exec_cases i s
  obtain ⟨n, hn, hk⟩ := exec_keeps he
  refine ⟨t, he, hk.machine, ?_, hc.halted⟩
  rw [hk.time]
  rcases hn with rfl | rfl
  · exact .inl rfl
  · exact .inr rfl

end Sys2Proof.Machine
end

section
/-! PROOFS. Loads, stores and register moves (R200-R240, R384): each form decodes to its instruction and runs the body of
its shape, and each body does what its statement says. -/

namespace Sys2Proof.Machine

/-! ### Forms that run a body -/

/-- The form is encoded as it says, and its instruction always runs to the state that `body` gives. -/
structure Form.Runs {α : Type} (f : Form α) (body : State → State) : Prop where
  encoded : f.Encoded
  exec_eq : ∀ s, exec f.instr s = .next (body s)

theorem Steady.trans {s t u : State} (h : Steady s t) (k : Steady t u) : Steady s u :=
  ⟨k.pc.trans h.pc, k.time.trans h.time, k.halted.trans h.halted, h.machine.trans k.machine⟩

theorem SameRegs.trans {s t u : State} (h : SameRegs s t) (k : SameRegs t u) : SameRegs s u :=
  fun r => (k r).trans (h r)

theorem SameDevices.trans {s t u : State} (h : SameDevices s t) (k : SameDevices t u) : SameDevices s u :=
  ⟨fun b => (k.bytes b).trans (h.bytes b), k.bank.trans h.bank, k.timers.trans h.timers⟩

theorem Source.read_sameRegs (src : Source) (s : State) : SameRegs s (src.read s).2 :=
  .of_eq (Source.read_snd_a _ _) (Source.read_snd_x _ _) (Source.read_snd_y _ _)

/-! ### The increment of (X)+ -/

/-- R202, R219: X after the access of a form: one higher for a form with `(X)+`, unchanged for the others. -/
def State.postInc (inc : Bool) (s : State) : State := { s with x := if inc then s.x + 1 else s.x }

theorem State.postInc_reg (inc : Bool) (s : State) (q : Reg8) :
    (s.postInc inc).reg q = if q = .x ∧ inc = true then s.x + 1 else s.reg q := by
  cases q <;> simp [State.postInc]

theorem State.postInc_sameDevices (inc : Bool) (s : State) : SameDevices s (s.postInc inc) := .of_eq rfl rfl rfl

theorem State.postInc_steady (inc : Bool) (s : State) : Steady s (s.postInc inc) :=
  ⟨rfl, rfl, rfl, by constructor <;> rfl⟩

/-! ### Loads -/

/-- R200-R217: the body of a load. -/
def LoadShape.body (sh : LoadShape) (s : State) : State := (load sh.reg sh.src s).postInc sh.inc

theorem loadForms_run (b1 b2 : Byte) : ∀ f ∈ loadForms b1 b2, f.Runs f.shape.body := by
  intro f hf
  fin_cases hf <;> exact ⟨⟨rfl, rfl, rfl, rfl⟩, fun _ => rfl⟩

/-- R202: the form with `(X)+` does not load X. -/
theorem loadForms_inc (b1 b2 : Byte) : ∀ f ∈ loadForms b1 b2, f.shape.inc = true → f.shape.reg ≠ .x := by
  simp [loadForms]

theorem LoadShape.body_reg {sh : LoadShape} (hinc : sh.inc = true → sh.reg ≠ .x) (s : State) (q : Reg8) :
    (sh.body s).reg q =
      if q = sh.reg then (sh.src.read s).1 else if q = .x ∧ sh.inc = true then s.x + 1 else s.reg q := by
  obtain ⟨hreg, -⟩ := load_runs sh.reg sh.src s
  rw [LoadShape.body, State.postInc_reg, hreg q]
  by_cases hq : q = .x ∧ sh.inc = true
  · obtain ⟨rfl, hi⟩ := hq
    have hx : Reg8.x ≠ sh.reg := (hinc hi).symm
    have hold : (load sh.reg sh.src s).x = s.x := (hreg .x).trans (if_neg hx)
    simp [hi, hx, hold]
  · simp [hq]

/-- Settles O21: a load, then the increment of X, which is not the register loaded. -/
theorem loadsRun : Obligations.LoadsRun := by
  intro b1 b2 f hf
  have hrun := loadForms_run b1 b2 f hf
  refine ⟨hrun.encoded, fun s => ⟨f.shape.body s, hrun.exec_eq s, LoadShape.body_reg (loadForms_inc b1 b2 f hf) s, ?_⟩⟩
  obtain ⟨-, hflags, hsp, hsteady, hread, hsame⟩ := load_runs f.shape.reg f.shape.src s
  have hinc := State.postInc_sameDevices f.shape.inc (load f.shape.reg f.shape.src s)
  exact ⟨hflags, hsp, hsteady.trans (State.postInc_steady _ _), hread.of_same hinc, hsame.trans hinc⟩

/-! ### Stores -/

/-- R218-R232: the body of a store. -/
def StoreShape.body (sh : StoreShape) (s : State) : State := (store sh.dst sh.reg s).postInc sh.inc

theorem storeForms_run (b1 b2 : Byte) : ∀ f ∈ storeForms b1 b2, f.Runs f.shape.body := by
  intro f hf
  fin_cases hf <;> exact ⟨⟨rfl, rfl, rfl, rfl⟩, fun _ => rfl⟩

/-- Settles O22: a store, which leaves the registers alone, then the increment of X. -/
theorem storesRun : Obligations.StoresRun := by
  intro b1 b2 f hf
  have hrun := storeForms_run b1 b2 f hf
  refine ⟨hrun.encoded, fun s => ⟨f.shape.body s, hrun.exec_eq s, ?_⟩⟩
  obtain ⟨hstored, hread, hregs, hflags, hsp, hsteady⟩ := store_runs f.shape.dst f.shape.reg s
  refine ⟨hstored.of_same (State.postInc_sameDevices _ _), hread, fun q => ?_, hflags, hsp,
    hsteady.trans (State.postInc_steady _ _)⟩
  have hx : (store f.shape.dst f.shape.reg s).x = s.x := hregs .x
  rw [StoreShape.body, State.postInc_reg, hregs q, hx]

/-! ### Register moves -/

/-- R233-R237, R384: the body of a register move. -/
def MoveShape.body (sh : MoveShape) (s : State) : State := moveTo sh.reg (sh.value s) s

theorem moveForms_run : ∀ f ∈ moveForms, f.Runs f.shape.body := by
  intro f hf
  fin_cases hf <;> exact ⟨⟨rfl, rfl, rfl, rfl⟩, fun _ => rfl⟩

/-- R238: MOV SP, X writes SP alone. -/
theorem moveToSpForm_run : ∀ f ∈ moveToSpForm, f.Runs fun s => { s with sp := s.x } := by
  intro f hf
  obtain rfl := List.mem_singleton.mp hf
  exact ⟨⟨rfl, rfl, rfl, rfl⟩, fun _ => rfl⟩

/-- Settles O23: every form but MOV SP, X is a `moveTo`. -/
theorem movesRun : Obligations.MovesRun := by
  constructor
  · intro f hf
    have hrun := moveForms_run f hf
    exact ⟨hrun.encoded, fun s => ⟨f.shape.body s, hrun.exec_eq s, moveTo_runs f.shape.reg (f.shape.value s) s⟩⟩
  · intro f hf
    have hrun := moveToSpForm_run f hf
    exact ⟨hrun.encoded, fun s => ⟨_, hrun.exec_eq s, rfl, .of_eq rfl rfl rfl, rfl,
      ⟨rfl, rfl, rfl, by constructor <;> rfl⟩, .of_eq rfl rfl rfl⟩⟩

/-! ### Moves to a direct-page byte -/

/-- R239, R240: the body of a move to a direct-page byte: the source is read first. -/
def MoveByteShape.body (sh : MoveByteShape) (s : State) : State :=
  memWrite (dpAddr sh.offset (sh.src.read s).2) (sh.src.read s).1 (sh.src.read s).2

theorem moveByteForms_run (b1 b2 : Byte) : ∀ f ∈ moveByteForms b1 b2, f.Runs f.shape.body := by
  intro f hf
  fin_cases hf <;> exact ⟨⟨rfl, rfl, rfl, rfl⟩, fun _ => rfl⟩

/-- Settles O24: reading the source changes neither P nor a register, and the write changes its byte. -/
theorem moveBytesRun : Obligations.MoveBytesRun := by
  intro b1 b2 f hf
  have hrun := moveByteForms_run b1 b2 f hf
  refine ⟨hrun.encoded, fun s => ⟨f.shape.body s, hrun.exec_eq s, ?_⟩⟩
  have haddr : dpAddr f.shape.offset (f.shape.src.read s).2 = dpAddr f.shape.offset s :=
    dpAddr_congr _ (Source.read_snd_flags _ _)
  obtain ⟨hregs, hflags, hsp, hsteady⟩ :=
    memWrite_leaves (dpAddr f.shape.offset s) (f.shape.src.read s).1 (f.shape.src.read s).2
  rw [MoveByteShape.body, haddr]
  exact ⟨memWrite_stored _ _ rfl rfl rfl rfl, Source.read_readOnly _ s, (Source.read_sameRegs _ s).trans hregs,
    hflags.trans (Source.read_snd_flags _ s), hsp.trans (Source.read_snd_sp _ s), (Source.read_steady _ s).trans hsteady⟩

end Sys2Proof.Machine
end

section
/-! PROOFS. 8-bit arithmetic, compare and logic (R260-R344): the ALU functions, that SBC undoes ADC, and the 78 forms, which
run one body per kind of destination. -/

namespace Sys2Proof.Machine

/-! ### The ALU functions -/

theorem aluAdd_snd_eq (d src : Byte) (s : State) :
    (aluAdd d src s).2 = { s with flags := (aluAdd d src s).2.flags } := by
  unfold aluAdd
  cases s.params.flagProfile <;> cases s.params.nzFromRawSum <;> rfl

/-- Settles O18: the logic functions as they are defined, the sums through the unmasked sum, CMP as a comparison. -/
theorem aluFunctions : Obligations.AluFunctions := by
  intro d src s
  refine ⟨fun op r h => ?_, fun op src' h => ?_, rfl, aluCmp_flags d src s⟩
  · simp only [List.mem_cons, Prod.mk.injEq, List.not_mem_nil, or_false] at h
    rcases h with ⟨rfl, rfl⟩ | ⟨rfl, rfl⟩ | ⟨rfl, rfl⟩ <;> exact ⟨rfl, rfl⟩
  · simp only [List.mem_cons, Prod.mk.injEq, List.not_mem_nil, or_false] at h
    rcases h with ⟨rfl, rfl⟩ | ⟨rfl, rfl⟩ <;> exact ⟨aluAdd_snd_eq d _ s, aluAdd_added d _ s⟩

/-- R263, in bytes. -/
theorem aluAdd_fst (d src : Byte) (s : State) :
    (aluAdd d src s).1 = if s.flags.c then d + src + 1 else d + src := by
  rw [(aluAdd_added d src s).sum]
  cases s.flags.c <;> simp [BitVec.ofNat_add]

/-- R264, in bytes: C is no borrow. -/
theorem alu_sbc_fst (d src : Byte) (s : State) :
    (alu .sbc d src s).1 = if s.flags.c then d - src else d - src - 1 := by
  have sub : d + ~~~src + 1 = d - src := by bv_omega
  refine (aluAdd_fst d (~~~src) s).trans ?_
  rw [← sub, BitVec.add_sub_cancel]

/-- Settles O19: what was added is subtracted, and one more where C is clear. -/
theorem subtractUndoesAdd : Obligations.SubtractUndoesAdd := by
  intro x y s u hc
  have sum : (alu .adc x y s).1 = x + y := (aluAdd_fst x y s).trans (if_neg (hc ▸ Bool.false_ne_true))
  rw [alu_sbc_fst, sum, BitVec.add_sub_cancel]

/-! ### The forms with a result -/

/-- R266-R301, R314-R337: the body of an ALU form; a register destination is A. -/
def AluShape.body (op : AluOp) (sh : AluShape) : State → State :=
  match sh.dst with
  | .reg _ => aluA op sh.src
  | .mem m => aluMem op m sh.src

/-- The forms of each operation. -/
def aluForms (b1 b2 : Byte) : AluOp → List (Form AluShape)
  | .or => orForms b1 b2
  | .and => andForms b1 b2
  | .eor => eorForms b1 b2
  | .adc => adcForms b1 b2
  | .sbc => sbcForms b1 b2

theorem aluForms_run (b1 b2 : Byte) (op : AluOp) : ∀ f ∈ aluForms b1 b2 op, f.Runs (f.shape.body op) := by
  intro f hf
  cases op <;> (fin_cases hf <;> exact ⟨⟨rfl, rfl, rfl, rfl⟩, fun _ => rfl⟩)

theorem aluForms_reg (b1 b2 : Byte) (op : AluOp) :
    ∀ f ∈ aluForms b1 b2 op, ∀ r, f.shape.dst = .reg r → r = .a := by
  cases op <;> simp [aluForms, orForms, andForms, eorForms, adcForms, sbcForms]

/-- A form that runs its body does what its statement says, A being its only register destination. -/
theorem Form.Runs.aluRuns {op : AluOp} {f : Form AluShape} (h : f.Runs (f.shape.body op))
    (hreg : ∀ r, f.shape.dst = .reg r → r = .a) : AluRuns op f := by
  obtain ⟨_, _, _, _, _, dst, src⟩ := f
  refine ⟨h.encoded, fun s => ?_⟩
  cases dst with
  | reg r =>
    obtain rfl := hreg r rfl
    exact ⟨aluA op src s, h.exec_eq s, aluA_runs op src s⟩
  | mem m => exact ⟨aluMem op m src s, h.exec_eq s, aluMem_runs op m src s⟩

theorem aluForms_aluRuns (b1 b2 : Byte) (op : AluOp) : ∀ f ∈ aluForms b1 b2 op, AluRuns op f :=
  fun f hf => (aluForms_run b1 b2 op f hf).aluRuns (aluForms_reg b1 b2 op f hf)

/-- Settles O25: the forms of the three functions that set N and Z alone. -/
theorem logicRuns : Obligations.LogicRuns :=
  fun b1 b2 => ⟨aluForms_aluRuns b1 b2 .or, aluForms_aluRuns b1 b2 .and, aluForms_aluRuns b1 b2 .eor⟩

/-- Settles O26: the same two bodies, with the sum. -/
theorem adcRuns : Obligations.AdcRuns := fun b1 b2 => aluForms_aluRuns b1 b2 .adc

/-- Settles O27: the same two bodies, with the difference. -/
theorem sbcRuns : Obligations.SbcRuns := fun b1 b2 => aluForms_aluRuns b1 b2 .sbc

/-! ### The comparisons -/

/-- R302-R313, R338-R343: the body of a CMP form. -/
def AluShape.cmpBody (sh : AluShape) : State → State :=
  match sh.dst with
  | .reg r => cmpReg r sh.src
  | .mem m => cmpMem m sh.src

theorem cmpForms_run (b1 b2 : Byte) : ∀ f ∈ cmpForms b1 b2 ++ cmpXYForms b1 b2, f.Runs f.shape.cmpBody := by
  intro f hf
  fin_cases hf <;> exact ⟨⟨rfl, rfl, rfl, rfl⟩, fun _ => rfl⟩

theorem Form.Runs.cmpRuns {f : Form AluShape} (h : f.Runs f.shape.cmpBody) : CmpRuns f := by
  obtain ⟨_, _, _, _, _, dst, src⟩ := f
  refine ⟨h.encoded, fun s => ?_⟩
  cases dst with
  | reg r => exact ⟨cmpReg r src s, h.exec_eq s, cmpReg_runs r src s⟩
  | mem m => exact ⟨cmpMem m src s, h.exec_eq s, cmpMem_runs m src s⟩

/-- Settles O28: A, X, Y and memory bytes are compared by the same two bodies. -/
theorem comparesRun : Obligations.ComparesRun :=
  fun b1 b2 =>
    ⟨fun f hf => (cmpForms_run b1 b2 f (List.mem_append_left _ hf)).cmpRuns,
      fun f hf => (cmpForms_run b1 b2 f (List.mem_append_right _ hf)).cmpRuns⟩

end Sys2Proof.Machine
end

section
/-! PROOFS. Increment, decrement, shifts and rotates (R350-R383): what the six functions compute, and the 28 forms, which run
one body per kind of destination. -/

namespace Sys2Proof.Machine

/-! ### The one-operand functions -/

/-- R35, with the result read as a number. -/
theorem setNZ8_setC_eq {r : Byte} {n : Nat} (h : r.toNat = n) (carry : Bool) (s : State) :
    setNZ8 r (setC carry s) =
      { s with flags := { s.flags with n := decide (n ≥ 128), z := decide (n = 0), c := carry } } := by
  have hn : r.msb = decide (n ≥ 128) := h ▸ BitVec.msb_eq_decide r
  have hz : decide (r = 0) = decide (n = 0) := by rw [← h, decide_eq_decide]; exact BitVec.toNat_inj.symm
  rw [setNZ8, hn, hz, setC]

theorem toNat_shiftLeft_one (v : Byte) : (v <<< 1).toNat = 2 * v.toNat % 256 := by
  rw [BitVec.toNat_shiftLeft, Nat.shiftLeft_eq, Nat.mul_comm]

theorem toNat_ushiftRight_one (v : Byte) : (v >>> 1).toNat = v.toNat / 2 := by
  rw [BitVec.toNat_ushiftRight, Nat.shiftRight_eq_div_pow]

/-- R351: the old C enters bit 0, which the shift left clear. -/
theorem toNat_rotateLeftCarry (v : Byte) (c : Bool) :
    (v <<< 1 ||| (BitVec.ofBool c).setWidth 8).toNat = (2 * v.toNat + c.toNat) % 256 := by
  have hdisjoint : v <<< 1 &&& (BitVec.ofBool c).setWidth 8 = 0 := by
    ext i hi
    by_cases hzero : i = 0 <;> simp [hzero]
  rw [← BitVec.add_eq_or_of_and_eq_zero _ _ hdisjoint, BitVec.toNat_add, toNat_shiftLeft_one, Nat.mod_add_mod]
  cases c <;> rfl

/-- R353: the old C enters bit 7, which the shift left clear. -/
theorem toNat_rotateRightCarry (v : Byte) (c : Bool) :
    (v >>> 1 ||| (BitVec.ofBool c).setWidth 8 <<< 7).toNat = v.toNat / 2 + 128 * c.toNat := by
  have hdisjoint : v >>> 1 &&& (BitVec.ofBool c).setWidth 8 <<< 7 = 0 := by
    ext i hi
    by_cases hlow : i < 7
    · simp [hlow]
    · simp [BitVec.getLsbD_of_ge v (1 + i) (by omega)]
  have hcarry : ((BitVec.ofBool c).setWidth 8 <<< 7 : Byte).toNat = 128 * c.toNat := by cases c <;> rfl
  rw [← BitVec.add_eq_or_of_and_eq_zero _ _ hdisjoint, BitVec.toNat_add, toNat_ushiftRight_one, hcarry]
  exact Nat.mod_eq_of_lt (by have := v.isLt; have := c.toNat_lt; omega)

theorem toNat_sub_one (v : Byte) : (v - 1).toNat = (v.toNat + 255) % 256 := by
  rw [BitVec.toNat_sub, Nat.add_comm]
  rfl

/-- Settles O20: each function is a byte with a known value and the flags set from it; INC and DEC set C to itself. -/
theorem rmwFunctions : Obligations.RmwFunctions := by
  intro v s c op n carry h
  simp only [List.mem_cons, Prod.mk.injEq, List.not_mem_nil, or_false] at h
  rcases h with ⟨rfl, rfl, rfl⟩ | ⟨rfl, rfl, rfl⟩ | ⟨rfl, rfl, rfl⟩ | ⟨rfl, rfl, rfl⟩ | ⟨rfl, rfl, rfl⟩ | ⟨rfl, rfl, rfl⟩
  · exact ⟨toNat_shiftLeft_one v, setNZ8_setC_eq (toNat_shiftLeft_one v) v.msb s⟩
  · exact ⟨toNat_rotateLeftCarry v s.flags.c, setNZ8_setC_eq (toNat_rotateLeftCarry v s.flags.c) v.msb s⟩
  · exact ⟨toNat_ushiftRight_one v, setNZ8_setC_eq (toNat_ushiftRight_one v) (v.getLsbD 0) s⟩
  · exact ⟨toNat_rotateRightCarry v s.flags.c, setNZ8_setC_eq (toNat_rotateRightCarry v s.flags.c) (v.getLsbD 0) s⟩
  · exact ⟨BitVec.toNat_add v 1, setNZ8_setC_eq (BitVec.toNat_add v 1) s.flags.c s⟩
  · exact ⟨toNat_sub_one v, setNZ8_setC_eq (toNat_sub_one v) s.flags.c s⟩

/-! ### The forms -/

/-- R356-R383: the body of a one-operand form. -/
def RmwShape.body (sh : RmwShape) : State → State :=
  match sh.dst with
  | .reg r => rmwReg sh.op r
  | .mem m => rmwMem sh.op m

theorem rmwForms_run (b1 b2 : Byte) :
    ∀ f ∈ leftShiftForms b1 b2 ++ rightShiftForms b1 b2 ++ incDecForms b1 b2, f.Runs f.shape.body := by
  intro f hf
  fin_cases hf <;> exact ⟨⟨rfl, rfl, rfl, rfl⟩, fun _ => rfl⟩

theorem Form.Runs.rmwRuns {f : Form RmwShape} (h : f.Runs f.shape.body) : RmwRuns f := by
  obtain ⟨_, _, _, _, _, op, dst⟩ := f
  refine ⟨h.encoded, fun s => ?_⟩
  cases dst with
  | reg r => exact ⟨rmwReg op r s, h.exec_eq s, rmwReg_runs op r s⟩
  | mem m => exact ⟨rmwMem op m s, h.exec_eq s, rmwMem_runs op m s⟩

/-- Settles O29: each form runs the body for its destination. -/
theorem shiftsRun : Obligations.ShiftsRun :=
  fun b1 b2 =>
    ⟨fun f hf => (rmwForms_run b1 b2 f (List.mem_append_left _ (List.mem_append_left _ hf))).rmwRuns,
      fun f hf => (rmwForms_run b1 b2 f (List.mem_append_left _ (List.mem_append_right _ hf))).rmwRuns⟩

/-- Settles O30: the same two bodies, with A, X or Y as the register. -/
theorem incDecRuns : Obligations.IncDecRuns :=
  fun b1 b2 f hf => (rmwForms_run b1 b2 f (List.mem_append_right _ hf)).rmwRuns

end Sys2Proof.Machine
end

section
/-! PROOFS. Words, multiplication and division (R390-R401): MOVW, INCW, DECW, ADDW, SUBW, CMPW, MUL and DIV. -/

namespace Sys2Proof.Machine

/-! ### The view YA -/

/-- R31: the high half of YA is Y. -/
theorem State.ya_hi (s : State) : s.ya.hi = s.y := Word.hi_mk s.y s.a

/-- R31: what is written to YA is read back. -/
theorem State.ya_setYa (s : State) (w : Word) : (s.setYa w).ya = w := Word.mk_hi_lo w

/-! ### Bodies that write YA and the flags alone -/

theorem ya_flags_leave {s t : State} (h : t = { s with a := t.a, y := t.y, flags := t.flags }) :
    t.x = s.x ∧ t.sp = s.sp ∧ Steady s t ∧ SameDevices s t := by
  rw [h]
  exact ⟨rfl, rfl, ⟨rfl, rfl, rfl, by constructor <;> rfl⟩, .of_eq rfl rfl rfl⟩

theorem readWordDp_steady (o : Byte) (s : State) : Steady s (readWordDp o s).2 :=
  (memRead_steady _ s).trans (memRead_steady _ _)

theorem State.ya_readWordDp (o : Byte) (s : State) : (readWordDp o s).2.ya = s.ya := by
  rw [State.ya, readWordDp_snd_y, readWordDp_snd_a, State.ya]

/-- R104: the frame of a body that reads the direct-page word first. -/
theorem readWordDp_ya_flags_leave {o : Byte} {s t : State}
    (h : t = { (readWordDp o s).2 with a := t.a, y := t.y, flags := t.flags }) :
    t.x = s.x ∧ t.sp = s.sp ∧ Steady s t ∧ ReadOnly s t ∧ SameDevices (readWordDp o s).2 t := by
  obtain ⟨hx, hsp, hsteady, hsame⟩ := ya_flags_leave h
  exact ⟨hx.trans (readWordDp_snd_x o s), hsp.trans (readWordDp_snd_sp o s), (readWordDp_steady o s).trans hsteady,
    (readWordDp_readOnly o s).of_same hsame, hsame⟩

/-! ### MOVW -/

/-- R393: YA loaded from the direct-page word. -/
def loadYa (o : Byte) (s : State) : State :=
  setNZ16 (readWordDp o s).1 ((readWordDp o s).2.setYa (readWordDp o s).1)

/-- R394: A, then Y, written to the direct-page word. -/
def storeYa (o : Byte) (s : State) : State :=
  let u := memWrite (dpAddr o s) s.a s
  memWrite (dpAddr (o + 1) u) u.y u

theorem storeYa_eq (o : Byte) (s : State) :
    storeYa o s = memWrite (dpAddr (o + 1) s) s.y (memWrite (dpAddr o s) s.a s) := by
  rw [storeYa, memWrite_y, dpAddr_congr _ (memWrite_flags _ _ s)]

theorem storeYa_runs (o : Byte) (s : State) :
    StoredTwo (dpAddr o s) s.a (dpAddr (o + 1) s) s.y s (storeYa o s) ∧ SameRegs s (storeYa o s) ∧
      (storeYa o s).flags = s.flags ∧ (storeYa o s).sp = s.sp ∧ Steady s (storeYa o s) := by
  rw [storeYa_eq]
  obtain ⟨hregs, hflags, hsp, hsteady⟩ := memWrite_leaves (dpAddr o s) s.a s
  obtain ⟨kregs, kflags, ksp, ksteady⟩ := memWrite_leaves (dpAddr (o + 1) s) s.y (memWrite (dpAddr o s) s.a s)
  exact ⟨.of_writes _ _ _ _ rfl rfl rfl rfl rfl rfl rfl hsteady.time (.of_eq rfl rfl rfl), hregs.trans kregs,
    kflags.trans hflags, ksp.trans hsp, hsteady.trans ksteady⟩

/-- R393, R394: the body of a MOVW form. -/
def movwBody (o : Byte) : Bool → State → State
  | true => loadYa o
  | false => storeYa o

theorem movwForms_run (b1 : Byte) : ∀ f ∈ movwForms b1, f.Runs (movwBody b1 f.shape) := by
  intro f hf
  fin_cases hf <;> exact ⟨⟨rfl, rfl, rfl, rfl⟩, fun _ => rfl⟩

/-- Settles O31: the load reads the word and writes YA, the store makes two writes and no read. -/
theorem movwRuns : Obligations.MovwRuns := by
  intro b1 f hf
  have hrun := movwForms_run b1 f hf
  obtain ⟨_, _, _, _, _, toYa⟩ := f
  refine ⟨hrun.encoded, fun s => ⟨movwBody b1 toYa s, hrun.exec_eq s, ?_⟩⟩
  cases toYa with
  | true =>
    obtain ⟨hx, hsp, hsteady, hread, hsame⟩ := readWordDp_ya_flags_leave (t := loadYa b1 s) rfl
    refine ⟨hx, hsp, hsteady, ?_⟩
    rw [if_pos rfl]
    exact ⟨rfl, rfl, by simp [movwBody, loadYa], hread, hsame⟩
  | false =>
    obtain ⟨hstored, hregs, hflags, hsp, hsteady⟩ := storeYa_runs b1 s
    refine ⟨hregs .x, hsp, hsteady, ?_⟩
    rw [if_neg Bool.false_ne_true]
    exact ⟨hstored, hregs .a, hregs .y, hflags⟩

/-! ### INCW and DECW -/

theorem incwForms_run (b1 : Byte) : ∀ f ∈ incwForms b1, f.Runs (modifyWordDp f.shape b1) := by
  intro f hf
  fin_cases hf <;> exact ⟨⟨rfl, rfl, rfl, rfl⟩, fun _ => rfl⟩

/-- Settles O32: both forms are a `modifyWordDp`. -/
theorem incwRuns : Obligations.IncwRuns := by
  intro b1 f hf
  have hrun := incwForms_run b1 f hf
  exact ⟨hrun.encoded, fun s => ⟨modifyWordDp f.shape b1 s, hrun.exec_eq s, modifyWordDp_runs f.shape b1 s⟩⟩

/-! ### ADDW, SUBW and CMPW -/

/-- R391: the carry into a 16-bit sum: C, or a constant where WORD_CARRY_IN is off. -/
def State.wordCarry (otherwise : Nat) (s : State) : Nat :=
  if s.params.wordCarryIn then s.flags.c.toNat else otherwise

/-- R397, R398: `f` of the direct-page word added to YA. -/
def addWordDp (f : Word → Word) (otherwise : Nat) (o : Byte) (s : State) : State :=
  let w := readWordDp o s
  let sum := wordAdd w.2.ya (f w.1) (w.2.wordCarry otherwise) w.2
  sum.2.setYa sum.1

/-- R399: YA compared with the direct-page word. -/
def compareWordDp (o : Byte) (s : State) : State :=
  wordCmp (readWordDp o s).2.ya (readWordDp o s).1 (readWordDp o s).2

theorem State.wordCarry_readWordDp (otherwise : Nat) (o : Byte) (s : State) :
    (readWordDp o s).2.wordCarry otherwise = s.wordCarry otherwise := by
  rw [State.wordCarry, readWordDp_snd_params, readWordDp_snd_flags, State.wordCarry]

theorem wordAdd_snd_eq (d v : Word) (cin : Nat) (s : State) :
    (wordAdd d v cin s).2 = { s with flags := (wordAdd d v cin s).2.flags } := by
  unfold wordAdd
  cases s.params.flagProfile <;> cases s.params.nzFromRawSum <;> rfl

/-- R390, after a read that leaves YA, the flags and the parameters as they were. -/
theorem addWordDp_added (f : Word → Word) (otherwise : Nat) (o : Byte) (s : State) :
    Added 16 s.params s.ya (f (readWordDp o s).1) (s.wordCarry otherwise) (addWordDp f otherwise o s).ya s.flags
      (addWordDp f otherwise o s).flags := by
  have h := wordAdd_added s.ya (f (readWordDp o s).1) (s.wordCarry otherwise) (readWordDp o s).2
  rw [readWordDp_snd_params, readWordDp_snd_flags] at h
  rw [addWordDp, State.ya_setYa, State.setYa_flags, State.ya_readWordDp, State.wordCarry_readWordDp]
  exact h

theorem addWordDp_eq (f : Word → Word) (otherwise : Nat) (o : Byte) (s : State) :
    let t := addWordDp f otherwise o s
    t = { (readWordDp o s).2 with a := t.a, y := t.y, flags := t.flags } := by
  intro t
  simp only [t, addWordDp]
  rw [wordAdd_snd_eq]
  rfl

theorem compareWordDp_compared (o : Byte) (s : State) :
    Compared s.ya (readWordDp o s).1 s.flags (compareWordDp o s).flags := by
  have h := wordCmp_flags s.ya (readWordDp o s).1 (readWordDp o s).2
  rw [readWordDp_snd_flags] at h
  rw [compareWordDp, State.ya_readWordDp]
  exact h

/-- R397-R399: the body of a form of 16-bit arithmetic. -/
def WordKind.body (o : Byte) : WordKind → State → State
  | .add => addWordDp id 0 o
  | .subtract => addWordDp (~~~·) 1 o
  | .compare => compareWordDp o

theorem wordForms_run (b1 : Byte) : ∀ f ∈ wordForms b1, f.Runs (f.shape.body b1) := by
  intro f hf
  fin_cases hf <;> exact ⟨⟨rfl, rfl, rfl, rfl⟩, fun _ => rfl⟩

theorem WordKind.body_eq (k : WordKind) (o : Byte) (s : State) :
    k.body o s = { (readWordDp o s).2 with a := (k.body o s).a, y := (k.body o s).y, flags := (k.body o s).flags } := by
  cases k with
  | add | subtract => exact addWordDp_eq _ _ o s
  | compare => rfl

/-- Settles O33: one frame for the three kinds, then the sum of each or the comparison. -/
theorem wordArithmeticRuns : Obligations.WordArithmeticRuns := by
  intro b1 f hf
  have hrun := wordForms_run b1 f hf
  obtain ⟨_, _, _, _, _, kind⟩ := f
  refine ⟨hrun.encoded, fun s => ⟨kind.body b1 s, hrun.exec_eq s, ?_⟩⟩
  obtain ⟨hx, hsp, hsteady, hread, hsame⟩ := readWordDp_ya_flags_leave (kind.body_eq b1 s)
  refine ⟨hx, hsp, hsteady, hread, hsame, ?_⟩
  cases kind with
  | add => exact addWordDp_added id 0 b1 s
  | subtract => exact addWordDp_added (~~~·) 1 b1 s
  | compare => exact ⟨compareWordDp_compared b1 s, State.ya_readWordDp b1 s⟩

/-! ### MUL -/

/-- R400: the product of Y and A, in YA. -/
def multiplied (s : State) : State :=
  let r : Word := BitVec.ofNat 16 (s.y.toNat * s.a.toNat)
  setNZ8 r.hi (s.setYa r)

theorem mulForm_run : ∀ f ∈ mulForm, f.Runs multiplied := by
  intro f hf
  obtain rfl := List.mem_singleton.mp hf
  exact ⟨⟨rfl, rfl, rfl, rfl⟩, fun _ => rfl⟩

/-- R400: the product of two bytes fits a word. -/
theorem multiplied_ya (s : State) : (multiplied s).ya.toNat = s.y.toNat * s.a.toNat := by
  have hfit : s.y.toNat * s.a.toNat < 2 ^ 8 * 2 ^ 8 := Nat.mul_lt_mul'' s.y.isLt s.a.isLt
  have hya : (multiplied s).ya = BitVec.ofNat 16 (s.y.toNat * s.a.toNat) := Word.mk_hi_lo _
  rw [hya, BitVec.toNat_ofNat]
  exact Nat.mod_eq_of_lt hfit

/-! ### DIV -/

/-- R401: H after DIV, which FLAG_PROFILE = hardware alone writes. -/
def State.divH (s : State) : Bool :=
  match s.params.flagProfile with
  | .spcjs => s.flags.h
  | .hardware => s.hib (decide (s.x &&& 0x0F ≤ s.y &&& 0x0F))

/-- R401: the quotient in A and the remainder in Y, with the flags. -/
def divided (s : State) : State :=
  let qr := divide s.params s.ya s.x
  setNZ8 (BitVec.ofNat 8 qr.1)
    { s with
      a := BitVec.ofNat 8 qr.1
      y := BitVec.ofNat 8 qr.2
      flags := { s.flags with v := decide (s.x ≤ s.y), h := s.divH } }

theorem execDiv_eq (s : State) : execDiv s = .next (divided s) := by
  unfold execDiv divided State.divH
  cases s.params.flagProfile <;> rfl

theorem divForm_run : ∀ f ∈ divForm, f.Runs divided := by
  intro f hf
  obtain rfl := List.mem_singleton.mp hf
  exact ⟨⟨rfl, rfl, rfl, rfl⟩, execDiv_eq⟩

theorem State.divH_spcjs {s : State} (h : s.params.flagProfile = .spcjs) : s.divH = s.flags.h := by
  rw [State.divH, h]

theorem toNat_and_0x0F (v : Byte) : (v &&& 0x0F).toNat = v.toNat % 16 :=
  (BitVec.toNat_and v 0x0F).trans (Nat.and_two_pow_sub_one_eq_mod v.toNat 4)

/-- R401: the hardware compares the low nibbles of X and Y. -/
theorem State.divH_hardware {s : State} (h : s.params.flagProfile = .hardware) (hp : s.params.hibPolicy = .preserve) :
    s.divH = decide (s.x.toNat % 16 ≤ s.y.toNat % 16) := by
  simp only [State.divH, h, State.hib_eq, hp, BitVec.le_def, toNat_and_0x0F, decide_true, Bool.true_and]

/-- R401: YA divided by X where the quotient fits a byte, by the setting where Y is not below X. -/
theorem divide_ya (s : State) :
    divide s.params s.ya s.x =
      if s.y < s.x then (s.ya.toNat / s.x.toNat, s.ya.toNat % s.x.toNat) else s.params.divOverflow s.ya s.x := by
  rw [divide, State.ya_hi]

/-- R401: A and Y take the low bytes of the quotient and of the remainder. -/
theorem divided_a_toNat (s : State) : (divided s).a.toNat = (divide s.params s.ya s.x).1 % 256 := BitVec.toNat_ofNat ..

theorem divided_y_toNat (s : State) : (divided s).y.toNat = (divide s.params s.ya s.x).2 % 256 := BitVec.toNat_ofNat ..

theorem toNat_word_hi (w : Word) : w.hi.toNat = w.toNat / 256 := by
  rw [Word.hi, BitVec.extractLsb'_toNat, Nat.shiftRight_eq_div_pow]
  exact Nat.mod_eq_of_lt (by omega)

/-- R392. -/
theorem divOverflow_standard_eq (w : Word) (b : Byte) :
    Params.standard.divOverflow w b =
      if w.hi.toNat ≥ 2 * b.toNat then
        (255 - (w.toNat - 512 * b.toNat) / (256 - b.toNat), b.toNat + (w.toNat - 512 * b.toNat) % (256 - b.toNat))
      else (w.toNat / b.toNat, w.toNat % b.toNat) := by
  rw [Params.divOverflow_standard, standardDivOverflow, toNat_word_hi, Nat.mul_comm b.toNat 512]

/-- Settles O34: the product fits YA; the quotient and the remainder are `divide`'s, modulo 256. -/
theorem mulDivRun : Obligations.MulDivRun := by
  refine ⟨fun f hf => ?_, fun f hf => ?_, fun w b _ => divOverflow_standard_eq w b⟩
  · have hrun := mulForm_run f hf
    exact ⟨hrun.encoded, fun s => ⟨multiplied s, hrun.exec_eq s, multiplied_ya s, rfl, ya_flags_leave rfl⟩⟩
  · have hrun := divForm_run f hf
    refine ⟨hrun.encoded, fun s => ⟨divided s, hrun.exec_eq s, ?_, ?_, rfl, rfl, rfl, State.divH_spcjs,
      State.divH_hardware, rfl, rfl, rfl, rfl, ya_flags_leave rfl⟩⟩
    · rw [divided_a_toNat, divide_ya, apply_ite Prod.fst]
    · rw [divided_y_toNat, divide_ya, apply_ite Prod.snd]

end Sys2Proof.Machine
end

section
/-! PROOFS. Branches, jumps, calls and the stack (R410-R469): the branch after its test, what a transfer of control leaves
alone, and the bytes a push or a pop moves. -/

namespace Sys2Proof.Machine

/-! ### Branches on a flag -/

theorem branchForms_run (b1 : Byte) : ∀ f ∈ branchForms b1, f.Runs fun s => branch (f.shape s.flags) b1 s := by
  intro f hf
  fin_cases hf <;> exact ⟨⟨rfl, rfl, rfl, rfl⟩, fun _ => rfl⟩

/-- Settles O35: every form is a `branch` on its condition. -/
theorem branchesRun : Obligations.BranchesRun := by
  intro b1 f hf
  have hrun := branchForms_run b1 f hf
  exact ⟨hrun.encoded, fun s => ⟨branch (f.shape s.flags) b1 s, hrun.exec_eq s, branch_runs _ b1 s⟩⟩

/-! ### Branches on a bit -/

/-- R421-R436: the body of a branch on a bit of the direct-page byte at `o`. -/
def BitShape.branchBody (sh : BitShape) (o rel : Byte) : State → State := branchOnBit sh.value sh.bit o rel

theorem bitBranchForms_run (b1 b2 : Byte) : ∀ f ∈ bitBranchForms b1 b2, f.Runs (f.shape.branchBody b1 b2) := by
  intro f hf
  fin_cases hf <;> exact ⟨⟨rfl, rfl, rfl, rfl⟩, fun _ => rfl⟩

/-- Settles O36: every form is a `branchOnBit`. -/
theorem bitBranchesRun : Obligations.BitBranchesRun := by
  intro b1 b2 f hf
  have hrun := bitBranchForms_run b1 b2 f hf
  exact ⟨hrun.encoded, fun s =>
    ⟨f.shape.branchBody b1 b2 s, hrun.exec_eq s, branchOnBit_runs f.shape.value f.shape.bit b1 b2 s⟩⟩

/-! ### CBNE and DBNZ -/

theorem bne_eq_decide_ne (v w : Byte) : (v != w) = decide (v ≠ w) := by
  rw [decide_not]
  rfl

theorem cbneForms_run (b1 b2 : Byte) : ∀ f ∈ cbneForms b1 b2, f.Runs (compareAndBranch f.shape b2) := by
  intro f hf
  fin_cases hf <;> exact ⟨⟨rfl, rfl, rfl, rfl⟩, fun _ => rfl⟩

/-- R439: the direct-page byte at `o` one lower, then the branch. -/
def decByteAndBranch (o rel : Byte) (s : State) : State :=
  let m := memRead (dpAddr o s) s
  branch (m.1 - 1 != 0) rel (memWrite (dpAddr o m.2) (m.1 - 1) m.2)

/-- R440: Y one lower, then the branch. -/
def decYAndBranch (rel : Byte) (s : State) : State := branch (s.y - 1 != 0) rel { s with y := s.y - 1 }

/-- R439, R440: the body of a DBNZ form. -/
def dbnzBody (b1 b2 : Byte) : Bool → State → State
  | true => decByteAndBranch b1 b2
  | false => decYAndBranch b1

theorem dbnzForms_run (b1 b2 : Byte) : ∀ f ∈ dbnzForms b1 b2, f.Runs (dbnzBody b1 b2 f.shape) := by
  intro f hf
  fin_cases hf <;> exact ⟨⟨rfl, rfl, rfl, rfl⟩, fun _ => rfl⟩

theorem decByteAndBranch_eq (o rel : Byte) (s : State) :
    let m := memRead (dpAddr o s) s
    decByteAndBranch o rel s = branch (decide (m.1 - 1 ≠ 0)) rel (memWrite (dpAddr o s) (m.1 - 1) m.2) := by
  rw [decByteAndBranch, bne_eq_decide_ne, dpAddr_congr o (memRead_snd_flags _ s)]

theorem memRead_sameRegs (a : Word) (s : State) : SameRegs s (memRead a s).2 :=
  .of_eq (memRead_snd_a a s) (memRead_snd_x a s) (memRead_snd_y a s)

theorem decByteAndBranch_runs (o rel : Byte) (s : State) :
    let m := memRead (dpAddr o s) s
    let t := decByteAndBranch o rel s
    SameRegs s t ∧ t.flags = s.flags ∧ t.sp = s.sp ∧ Branched (decide (m.1 - 1 ≠ 0)) rel s t ∧
      Stored (dpAddr o s) (m.1 - 1) m.2 t ∧ ReadOnly s m.2 := by
  intro m t
  have ht : t = branch (decide (m.1 - 1 ≠ 0)) rel (memWrite (dpAddr o s) (m.1 - 1) m.2) := decByteAndBranch_eq o rel s
  obtain ⟨wregs, wflags, wsp, wsteady⟩ := memWrite_leaves (dpAddr o s) (m.1 - 1) m.2
  obtain ⟨-, bregs, bflags, bsp, bsame⟩ :=
    branch_runs (decide (m.1 - 1 ≠ 0)) rel (memWrite (dpAddr o s) (m.1 - 1) m.2)
  rw [ht]
  exact ⟨((memRead_sameRegs _ s).trans wregs).trans bregs, (bflags.trans wflags).trans (memRead_snd_flags _ s),
    (bsp.trans wsp).trans (memRead_snd_sp _ s), .of_steady ((memRead_steady _ s).trans wsteady),
    (memWrite_stored _ _ rfl rfl rfl rfl).of_same bsame, memRead_readOnly _ s⟩

theorem decYAndBranch_eq (rel : Byte) (s : State) :
    decYAndBranch rel s = branch (decide (s.y - 1 ≠ 0)) rel { s with y := s.y - 1 } := by
  rw [decYAndBranch, bne_eq_decide_ne]

theorem decYAndBranch_runs (rel : Byte) (s : State) :
    let t := decYAndBranch rel s
    t.a = s.a ∧ t.x = s.x ∧ t.flags = s.flags ∧ t.sp = s.sp ∧
      Branched (decide (s.y - 1 ≠ 0)) rel s t ∧ t.y = s.y - 1 ∧ SameDevices s t := by
  intro t
  have ht : t = branch (decide (s.y - 1 ≠ 0)) rel { s with y := s.y - 1 } := decYAndBranch_eq rel s
  have hsame : SameDevices s { s with y := s.y - 1 } := .of_eq rfl rfl rfl
  have hsteady : Steady s { s with y := s.y - 1 } := ⟨rfl, rfl, rfl, by constructor <;> rfl⟩
  obtain ⟨-, bregs, bflags, bsp, bsame⟩ := branch_runs (decide (s.y - 1 ≠ 0)) rel { s with y := s.y - 1 }
  rw [ht]
  exact ⟨bregs .a, bregs .x, bflags, bsp, .of_steady hsteady, bregs .y, hsame.trans bsame⟩

/-- Settles O37: CBNE is a `compareAndBranch`; DBNZ stores the lower byte, or Y, and branches on it. -/
theorem countedBranchesRun : Obligations.CountedBranchesRun := by
  refine ⟨fun b1 b2 f hf => ?_, fun b1 b2 f hf => ?_⟩
  · have hrun := cbneForms_run b1 b2 f hf
    refine ⟨hrun.encoded, fun s => ⟨compareAndBranch f.shape b2 s, hrun.exec_eq s, ?_⟩⟩
    rw [← bne_eq_decide_ne]
    exact compareAndBranch_runs f.shape b2 s
  · have hrun := dbnzForms_run b1 b2 f hf
    obtain ⟨_, _, _, _, _, inMemory⟩ := f
    refine ⟨hrun.encoded, fun s => ⟨dbnzBody b1 b2 inMemory s, hrun.exec_eq s, ?_⟩⟩
    cases inMemory with
    | true =>
      obtain ⟨hregs, hflags, hsp, hbranched, hstored, hread⟩ := decByteAndBranch_runs b1 b2 s
      refine ⟨hregs .a, hregs .x, hflags, hsp, ?_⟩
      rw [if_pos rfl]
      exact ⟨hbranched, hstored, hread, hregs .y⟩
    | false =>
      obtain ⟨ha, hx, hflags, hsp, hcounted⟩ := decYAndBranch_runs b1 s
      refine ⟨ha, hx, hflags, hsp, ?_⟩
      rw [if_neg Bool.false_ne_true]
      exact hcounted

/-! ### Transfers of control -/

/-- From `s` to `t` nothing but PC, SP and memory changed. -/
structure Transferred (s t : State) : Prop where
  regs : SameRegs s t
  flags : t.flags = s.flags
  time : t.time = s.time
  halted : t.halted = s.halted
  machine : SameMachine s t

theorem Transferred.trans {s t u : State} (h : Transferred s t) (k : Transferred t u) : Transferred s u :=
  ⟨h.regs.trans k.regs, k.flags.trans h.flags, k.time.trans h.time, k.halted.trans h.halted, h.machine.trans k.machine⟩

theorem Transferred.of_steady {s t : State} (hregs : SameRegs s t) (hflags : t.flags = s.flags) (h : Steady s t) :
    Transferred s t :=
  ⟨hregs, hflags, h.time, h.halted, h.machine⟩

theorem Transferred.of_pc_sp {s t : State} (h : t = { s with pc := t.pc, sp := t.sp }) : Transferred s t := by
  rw [h]
  exact ⟨.of_eq rfl rfl rfl, rfl, rfl, rfl, by constructor <;> rfl⟩

theorem push_transferred (v : Byte) (s : State) : Transferred s (push v s) := by
  obtain ⟨hregs, hflags, -, hsteady⟩ := memWrite_leaves (stackAddr s) v s
  exact (Transferred.of_steady hregs hflags hsteady).trans (.of_pc_sp rfl)

theorem pushPc_transferred (s : State) : Transferred s (pushPc s) := (push_transferred _ s).trans (push_transferred _ _)

theorem memRead_transferred (a : Word) (s : State) : Transferred s (memRead a s).2 :=
  .of_steady (memRead_sameRegs a s) (memRead_snd_flags a s) (memRead_steady a s)

theorem jumpThrough_transferred (p : Word) (s : State) : Transferred s (jumpThrough p s) :=
  ((memRead_transferred _ s).trans (memRead_transferred _ _)).trans (.of_pc_sp rfl)

/-! ### JMP, CALL, PCALL and RET -/

/-- R441-R444: the body of a jump; the indirect jump pushes nothing. -/
def JumpShape.body : JumpShape → State → State
  | ⟨.direct m, true⟩, s => { pushPc s with pc := m }
  | ⟨.direct m, false⟩, s => { s with pc := m }
  | ⟨.indirectX m, _⟩, s => jumpThrough (m + s.x.setWidth 16) s

theorem jumpForms_run (b1 b2 : Byte) : ∀ f ∈ jumpForms b1 b2, f.Runs f.shape.body := by
  intro f hf
  fin_cases hf <;> exact ⟨⟨rfl, rfl, rfl, rfl⟩, fun _ => rfl⟩

theorem JumpShape.body_transferred (sh : JumpShape) (s : State) : Transferred s (sh.body s) := by
  match sh with
  | ⟨.direct m, true⟩ => exact (pushPc_transferred s).trans (.of_pc_sp rfl)
  | ⟨.direct m, false⟩ => exact .of_pc_sp rfl
  | ⟨.indirectX m, _⟩ => exact jumpThrough_transferred _ s

theorem Pushed.of_same {vs : List Byte} {s t u : State} (h : Pushed vs s t) (k : SameDevices t u) (hsp : u.sp = t.sp) :
    Pushed vs s u :=
  ⟨fun b => (k.bytes b).trans (h.bytes b), k.bank.trans h.bank, k.timers.trans h.timers, hsp.trans h.sp⟩

theorem retForm_run : ∀ f ∈ retForm, f.Runs popPc := by
  intro f hf
  obtain rfl := List.mem_singleton.mp hf
  exact ⟨⟨rfl, rfl, rfl, rfl⟩, fun _ => rfl⟩

/-- R461: RET in the addresses of its two stack bytes. -/
theorem popPc_eq_stackByte (s : State) :
    popPc s = { s with pc := Word.mk (s.peek (stackByte s 2)) (s.peek (stackByte s 1)), sp := s.sp + 2 } := by
  have hsp : s.sp + 1 + 1 = s.sp + 2 := BitVec.add_assoc s.sp 1 1
  rw [popPc_eq, hsp]
  rfl

/-- Settles O38: one frame for the jumps, then the target and the stack of each; RET moves PC and SP alone. -/
theorem jumpsRun : Obligations.JumpsRun := by
  refine ⟨fun b1 b2 f hf => ?_, fun f hf => ?_⟩
  · have hrun := jumpForms_run b1 b2 f hf
    obtain ⟨_, _, _, _, _, sh⟩ := f
    refine ⟨hrun.encoded, fun s => ⟨sh.body s, hrun.exec_eq s, ?_⟩⟩
    obtain ⟨hregs, hflags, htime, hhalted, hmachine⟩ := sh.body_transferred s
    refine ⟨hregs, hflags, htime, hhalted, hmachine, ?_⟩
    match sh with
    | ⟨.direct m, true⟩ => exact ⟨rfl, (pushPc_pushed s).of_same (.of_eq rfl rfl rfl) rfl⟩
    | ⟨.direct m, false⟩ => exact ⟨rfl, rfl, .of_eq rfl rfl rfl⟩
    | ⟨.indirectX m, _⟩ =>
      have hsame : SameDevices (readWord (m + s.x.setWidth 16) s).2 (jumpThrough (m + s.x.setWidth 16) s) :=
        .of_eq rfl rfl rfl
      exact ⟨⟨rfl, (readWord_readOnly _ s).of_same hsame, hsame⟩, jumpThrough_sp _ s⟩
  · have hrun := retForm_run f hf
    refine ⟨hrun.encoded, fun s => ⟨popPc s, hrun.exec_eq s, ?_⟩⟩
    rw [popPc_eq_stackByte]
    exact ⟨rfl, rfl, .of_eq rfl rfl rfl, rfl, rfl, rfl, by constructor <;> rfl, .of_eq rfl rfl rfl⟩

/-! ### TCALL -/

theorem tcallForms_shape : ∀ f ∈ tcallForms, f.shape < 16 := by
  simp [tcallForms]

theorem tcallForms_run (f : Form Nat) (hf : f ∈ tcallForms) : f.Runs (tableCall ⟨f.shape, tcallForms_shape f hf⟩) := by
  fin_cases hf <;> exact ⟨⟨rfl, rfl, rfl, rfl⟩, fun _ => rfl⟩

theorem tcallVector_eq : ∀ n : Fin 16, tcallVector n = BitVec.ofNat 16 (0xFFDE - 2 * n.val) := by decide

/-- R125: both bytes of a vector lie above the window and the stack page. -/
theorem tcallVector_high : ∀ n : Fin 16, 0x0200 ≤ tcallVector n ∧ 0x0200 ≤ tcallVector n + 1 := by decide

/-- R411: the pushes of a call do not reach above the stack page. -/
theorem pushPc_peek_high (s : State) {b : Word} (h : 0x0200 ≤ b) : (pushPc s).peek b = s.peek b :=
  ((pushPc_pushed s).bytes b).trans (afterPushes_high _ _ _ _ h)

theorem refreshed_of_above_stack {b : Word} (h : 0x0200 ≤ b) : refreshed b = false :=
  refreshed_high b (BitVec.le_trans (by decide) h)

/-- R445-R460: the vector is read as it was before the pushes. -/
theorem tableCall_eq (n : Fin 16) (s : State) :
    tableCall n s = { pushPc s with pc := Word.mk (s.peek (tcallVector n + 1)) (s.peek (tcallVector n)) } := by
  obtain ⟨hlo, hhi⟩ := tcallVector_high n
  rw [tableCall, jumpThrough_plain _ _ (refreshed_of_above_stack hlo) (refreshed_of_above_stack hhi),
    pushPc_peek_high s hlo, pushPc_peek_high s hhi]

theorem tableCall_transferred (n : Fin 16) (s : State) : Transferred s (tableCall n s) :=
  (pushPc_transferred s).trans (jumpThrough_transferred _ _)

theorem tableCall_pushed (n : Fin 16) (s : State) : Pushed [s.pc.hi, s.pc.lo] s (tableCall n s) := by
  rw [tableCall_eq]
  exact (pushPc_pushed s).of_same (.of_eq rfl rfl rfl) rfl

theorem tableCall_pc (n : Fin 16) (s : State) :
    (tableCall n s).pc = Word.mk (s.peek (tcallVector n + 1)) (s.peek (tcallVector n)) := by
  rw [tableCall_eq]

/-- Settles O39: PC is pushed and loaded through the vector, and nothing else changes. -/
theorem tableCallsRun : Obligations.TableCallsRun := by
  intro f hf
  let n : Fin 16 := ⟨f.shape, tcallForms_shape f hf⟩
  have hrun : f.Runs (tableCall n) := tcallForms_run f hf
  refine ⟨hrun.encoded, fun s => ⟨tableCall n s, hrun.exec_eq s, ?_, tableCall_pushed n s, ?_⟩⟩
  · rw [tableCall_pc, tcallVector_eq]
  · obtain ⟨hregs, hflags, htime, hhalted, hmachine⟩ := tableCall_transferred n s
    exact ⟨hregs, hflags, htime, hhalted, hmachine⟩

/-! ### PUSH and POP -/

theorem pushForms_run : ∀ f ∈ pushForms, f.Runs fun s => push (f.shape s) s := by
  intro f hf
  fin_cases hf <;> exact ⟨⟨rfl, rfl, rfl, rfl⟩, fun _ => rfl⟩

/-- R466-R469: the byte popped into a register, or into the PSW. -/
def popInto : Option Reg8 → State → State
  | some r, s => (pop s).2.setReg r (pop s).1
  | none, s => (pop s).2.unpackPsw (pop s).1

theorem popForms_run : ∀ f ∈ popForms, f.Runs (popInto f.shape) := by
  intro f hf
  fin_cases hf <;> exact ⟨⟨rfl, rfl, rfl, rfl⟩, fun _ => rfl⟩

/-- R107 with R466-R468. -/
theorem popInto_some (r : Reg8) (s : State) :
    popInto (some r) s = { s with sp := s.sp + 1 }.setReg r (s.peek (stackByte s 1)) := by
  rw [popInto, pop_eq]
  rfl

/-- R107 with R37. -/
theorem popInto_none (s : State) :
    popInto none s = { s with sp := s.sp + 1, flags := (s.unpackPsw (s.peek (stackByte s 1))).flags } := by
  rw [popInto, pop_eq]
  rfl

/-- Settles O40: a push is one store and a lower SP; a pop writes SP and its register, or SP and the flags. -/
theorem pushPopRun : Obligations.PushPopRun := by
  refine ⟨fun f hf => ?_, fun f hf => ?_⟩
  · have hrun := pushForms_run f hf
    refine ⟨hrun.encoded, fun s => ⟨push (f.shape s) s, hrun.exec_eq s, ?_⟩⟩
    obtain ⟨hregs, hflags, htime, hhalted, hmachine⟩ := push_transferred (f.shape s) s
    exact ⟨.one (f.shape s) s, hregs, hflags, push_pc _ s, htime, hhalted, hmachine⟩
  · have hrun := popForms_run f hf
    obtain ⟨_, _, _, _, _, dst⟩ := f
    refine ⟨hrun.encoded, fun s => ⟨popInto dst s, hrun.exec_eq s, ?_⟩⟩
    cases dst with
    | some r =>
      rw [popInto_some]
      refine ⟨by simp, fun q => ?_, by simp, ⟨by simp, by simp, by simp, by constructor <;> simp⟩,
        .of_eq (by simp) (by simp) (by simp)⟩
      by_cases hq : q = r
      · rw [hq, State.setReg_reg_same, if_pos rfl]
      · rw [State.setReg_reg_other _ _ _ _ hq, if_neg (by simpa using Ne.symm hq)]
        exact State.reg_congr rfl rfl rfl q
    | none =>
      rw [popInto_none]
      exact ⟨rfl, fun q => rfl, rfl, ⟨rfl, rfl, rfl, by constructor <;> rfl⟩, .of_eq rfl rfl rfl⟩

end Sys2Proof.Machine
end

section
/-! PROOFS. Bits of a memory byte and the flags (R470-R493): SET1 and CLR1 write one bit, TSET1 and TCLR1 compare and then
write the bits of A, and the flag instructions write the flags alone. -/

namespace Sys2Proof.Machine

/-! ### SET1 and CLR1 -/

/-- The mask of `setBit`. -/
theorem natCast_one_shiftLeft (i : Nat) : ((1 <<< i : Nat) : Byte) = BitVec.twoPow 8 i := by
  apply BitVec.eq_of_toNat_eq
  rw [BitVec.toNat_twoPow, Nat.one_shiftLeft]
  exact BitVec.toNat_ofNat _ 8

theorem getLsbD_setBit (b : Fin 8) (v : Byte) (k : Nat) :
    (setBit b v).getLsbD k = if k = b.val then true else v.getLsbD k := by
  rw [setBit, natCast_one_shiftLeft, BitVec.getLsbD_or, BitVec.getLsbD_twoPow]
  by_cases hk : k = b.val
  · simp [hk]
  · simp [hk, Ne.symm hk]

theorem getLsbD_clearBit (b : Fin 8) (v : Byte) {k : Nat} (h : k < 8) :
    (clearBit b v).getLsbD k = if k = b.val then false else v.getLsbD k := by
  have hmask : (1 : Byte) <<< b.val = BitVec.twoPow 8 b.val := (BitVec.twoPow_eq 8 b.val).symm
  rw [clearBit, hmask, BitVec.getLsbD_and, BitVec.getLsbD_not, BitVec.getLsbD_twoPow]
  by_cases hk : k = b.val
  · simp [hk]
  · simp [h, hk, Ne.symm hk]

/-- R470-R485: a byte with the form's bit written. -/
def BitShape.write (sh : BitShape) : Byte → Byte :=
  match sh.value with
  | true => setBit sh.bit
  | false => clearBit sh.bit

theorem BitShape.getLsbD_write (sh : BitShape) (v : Byte) {k : Nat} (h : k < 8) :
    (sh.write v).getLsbD k = if k = sh.bit.val then sh.value else v.getLsbD k := by
  obtain ⟨b, value⟩ := sh
  cases value with
  | true => exact getLsbD_setBit b v k
  | false => exact getLsbD_clearBit b v h

theorem bitForms_run (b1 : Byte) : ∀ f ∈ bitForms b1, f.Runs fun s => modifyAt (dpAddr b1 s) f.shape.write s := by
  intro f hf
  fin_cases hf <;> exact ⟨⟨rfl, rfl, rfl, rfl⟩, fun _ => rfl⟩

/-- Settles O41: every form is a `modifyAt` that writes its bit. -/
theorem bitWritesRun : Obligations.BitWritesRun := by
  intro b1 f hf
  have hrun := bitForms_run b1 f hf
  refine ⟨hrun.encoded, fun s => ⟨_, f.shape.write (memRead (dpAddr b1 s) s).1, hrun.exec_eq s, ?_⟩⟩
  obtain ⟨hstored, hread, hregs, hflags, hsp, hsteady⟩ := modifyAt_runs (dpAddr b1 s) f.shape.write s
  exact ⟨hstored, hread, fun _ => f.shape.getLsbD_write _, hregs, hflags, hsp, hsteady⟩

/-! ### TSET1 and TCLR1 -/

theorem testForms_run (b1 b2 : Byte) :
    ∀ f ∈ testForms b1 b2, f.Runs fun s => testAndModify (Word.mk b2 b1) (f.shape · s.a) s := by
  intro f hf
  fin_cases hf <;> exact ⟨⟨rfl, rfl, rfl, rfl⟩, fun _ => rfl⟩

/-- Settles O42: the tested difference is zero exactly where A is the byte. -/
theorem testBitsRun : Obligations.TestBitsRun := by
  intro b1 b2 f hf
  have hrun := testForms_run b1 b2 f hf
  refine ⟨hrun.encoded, fun s => ⟨_, hrun.exec_eq s, ?_⟩⟩
  obtain ⟨hstored, hread, hflags, hregs, hsp, hsteady⟩ := testAndModify_runs (Word.mk b2 b1) (f.shape · s.a) s
  have hz : decide (s.a - (memRead (Word.mk b2 b1) s).1 = 0) = decide (s.a = (memRead (Word.mk b2 b1) s).1) :=
    decide_eq_decide.mpr sub_eq_zero
  exact ⟨hstored, hread, hz ▸ hflags, hregs, hsp, hsteady⟩

/-! ### The flag instructions -/

theorem flagForms_run : ∀ f ∈ flagForms, f.Runs fun s => { s with flags := f.shape s.flags } := by
  intro f hf
  fin_cases hf <;> exact ⟨⟨rfl, rfl, rfl, rfl⟩, fun _ => rfl⟩

/-- Settles O43: every form writes the field of the flags alone. -/
theorem flagInstructionsRun : Obligations.FlagInstructionsRun := by
  intro f hf
  have hrun := flagForms_run f hf
  refine ⟨hrun.encoded, fun s => ⟨_, hrun.exec_eq s, rfl, .of_eq rfl rfl rfl, ?_⟩⟩
  obtain ⟨-, hsp, hsteady, hsame⟩ := ya_flags_leave (s := s) (t := { s with flags := f.shape s.flags }) rfl
  exact ⟨hsp, hsteady, hsame⟩

end Sys2Proof.Machine
end

section
/-! PROOFS. The opcodes that the source does not name (R500-R517): the memory-bit instructions, CLRV, EI and DI, the decimal
adjusts, BRK and RETI, SLEEP and STOP. -/

namespace Sys2Proof.Machine

/-! ### The memory-bit instructions -/

/-- R500: the bit number is the top three bits of the third byte. -/
theorem bitNumber_val (b1 b2 : Byte) : (bitNumber b1 b2).val = b2.toNat / 32 := by
  have hval : (bitNumber b1 b2).val = b2.toNat / 32 % 8 := by
    rw [← Nat.shiftRight_eq_div_pow b2.toNat 5]
    exact BitVec.extractLsb'_toNat 5 3 b2
  omega

theorem carryForms_run (b1 b2 : Byte) :
    ∀ f ∈ carryForms b1 b2, f.Runs (carryFromBit f.shape (bitAddr b1 b2) (bitNumber b1 b2)) := by
  intro f hf
  fin_cases hf <;> exact ⟨⟨rfl, rfl, rfl, rfl⟩, fun _ => rfl⟩

/-- R507, R508: a byte with bit `b` written from C and the bit before. -/
def combineBit (f : Bool → Bool → Bool) (b : Fin 8) (c : Bool) (v : Byte) : Byte :=
  BitShape.write ⟨b, f c (v.getLsbD b)⟩ v

theorem getLsbD_combineBit (f : Bool → Bool → Bool) (b : Fin 8) (c : Bool) (v : Byte) {k : Nat} (h : k < 8) :
    (combineBit f b c v).getLsbD k = if k = b.val then f c (v.getLsbD b) else v.getLsbD k :=
  BitShape.getLsbD_write _ v h

/-- R507: MOV1 m.b, C sets the bit or clears it. -/
theorem setBit_or_clearBit_eq (b : Fin 8) (c : Bool) :
    (if c then setBit b else clearBit b) = combineBit (fun c _ => c) b c := by
  cases c <;> rfl

/-- R508: NOT1 m.b flips the bit. -/
theorem xor_bit_eq (b : Fin 8) (c : Bool) :
    (· ^^^ (1 : Byte) <<< b.val) = combineBit (fun _ v => !v) b c := by
  funext v
  apply BitVec.eq_of_getLsbD_eq
  intro k hk
  have hmask : (1 : Byte) <<< b.val = BitVec.twoPow 8 b.val := (BitVec.twoPow_eq 8 b.val).symm
  rw [getLsbD_combineBit _ _ _ _ hk, hmask, BitVec.getLsbD_xor, BitVec.getLsbD_twoPow]
  by_cases hb : k = b.val
  · simp [hb]
  · simp [hb, Ne.symm hb]

theorem storeBitForms_run (b1 b2 : Byte) :
    ∀ f ∈ storeBitForms b1 b2,
      f.Runs fun s => modifyAt (bitAddr b1 b2) (combineBit f.shape (bitNumber b1 b2) s.flags.c) s := by
  intro f hf
  fin_cases hf
  · exact ⟨⟨rfl, rfl, rfl, rfl⟩, fun s => congrArg
      (fun g => Host.Outcome.next (modifyAt (bitAddr b1 b2) g s)) (setBit_or_clearBit_eq (bitNumber b1 b2) s.flags.c)⟩
  · exact ⟨⟨rfl, rfl, rfl, rfl⟩, fun s => congrArg
      (fun g => Host.Outcome.next (modifyAt (bitAddr b1 b2) g s)) (xor_bit_eq (bitNumber b1 b2) s.flags.c)⟩

/-- Settles O45: six forms are a `carryFromBit`, and two a `modifyAt` that writes one bit. -/
theorem memoryBitsRun : Obligations.MemoryBitsRun := by
  intro b1 b2 addr n
  have hn : (bitNumber b1 b2).val = n := bitNumber_val b1 b2
  refine ⟨fun f hf => ?_, fun f hf => ?_⟩
  · have hrun := carryForms_run b1 b2 f hf
    refine ⟨hrun.encoded, fun s => ⟨_, hrun.exec_eq s, ?_⟩⟩
    rw [← hn]
    exact carryFromBit_runs f.shape addr (bitNumber b1 b2) s
  · have hrun := storeBitForms_run b1 b2 f hf
    refine ⟨hrun.encoded, fun s =>
      ⟨_, combineBit f.shape (bitNumber b1 b2) s.flags.c (memRead addr s).1, hrun.exec_eq s, ?_⟩⟩
    obtain ⟨hstored, hread, hregs, hflags, hsp, hsteady⟩ :=
      modifyAt_runs addr (combineBit f.shape (bitNumber b1 b2) s.flags.c) s
    rw [← hn]
    exact ⟨hstored, hread, fun _ => getLsbD_combineBit _ _ _ _, hregs, hflags, hsp, hsteady⟩

/-! ### CLRV, EI and DI -/

theorem State.hib_true (s : State) : s.hib true = decide (s.params.hibPolicy = .preserve) := by
  rw [State.hib_eq, Bool.and_true]

theorem State.hib_false (s : State) : s.hib false = false := by
  rw [State.hib_eq, Bool.and_false]

theorem setH_false (s : State) : setH false s = { s with flags := { s.flags with h := false } } := by
  rw [setH, State.hib_false]

theorem setI_true (s : State) :
    setI true s = { s with flags := { s.flags with i := decide (s.params.hibPolicy = .preserve) } } := by
  rw [setI, State.hib_true]

theorem setI_false (s : State) : setI false s = { s with flags := { s.flags with i := false } } := by
  rw [setI, State.hib_false]

theorem hibForms_run :
    ∀ f ∈ hibForms,
      f.Runs fun s => { s with flags := f.shape (decide (s.params.hibPolicy = .preserve)) s.flags } := by
  intro f hf
  fin_cases hf
  · exact ⟨⟨rfl, rfl, rfl, rfl⟩, fun s => congrArg Host.Outcome.next (setH_false (setV false s))⟩
  · exact ⟨⟨rfl, rfl, rfl, rfl⟩, fun s => congrArg Host.Outcome.next (setI_true s)⟩
  · exact ⟨⟨rfl, rfl, rfl, rfl⟩, fun s => congrArg Host.Outcome.next (setI_false s)⟩

/-- Settles O44: every form writes the field of the flags alone, I and H through the policy. -/
theorem hiddenFlagInstructionsRun : Obligations.HiddenFlagInstructionsRun := by
  intro f hf
  have hrun := hibForms_run f hf
  refine ⟨hrun.encoded, fun s => ⟨_, hrun.exec_eq s, rfl, .of_eq rfl rfl rfl, ?_⟩⟩
  obtain ⟨-, hframe⟩ := ya_flags_leave
    (s := s) (t := { s with flags := f.shape (decide (s.params.hibPolicy = .preserve)) s.flags }) rfl
  exact hframe

/-! ### DAA and DAS -/

/-- R38: legal flags read as they are stored. -/
theorem State.hib_h_of_flagsOk {s : State} (h : s.flagsOk) : s.hib s.flags.h = s.flags.h := by
  cases hp : s.params.hibPolicy with
  | preserve => simp [State.hib_eq, hp]
  | zero => rw [s.hib_of_zero _ hp, (h.2 hp).2.1]

/-- R512, R513: whether the first adjustment is made. -/
def decimalHigh (add : Bool) (s : State) : Bool :=
  if add then s.flags.c || decide (s.a.toNat > 0x99) else !s.flags.c || decide (s.a.toNat > 0x99)

/-- R512, R513: whether the second adjustment is made. -/
def decimalLow (add : Bool) (s : State) : Bool :=
  (if add then s.flags.h else !s.flags.h) || decide (s.a.toNat % 16 > 9)

/-- R512, R513: the first adjustment, of A and C. -/
def adjustHigh (add : Bool) (s : State) : State :=
  { s with
    a := if decimalHigh add s then (if add then s.a + 0x60 else s.a - 0x60) else s.a
    flags := { s.flags with c := if decimalHigh add s then add else s.flags.c } }

/-- R512, R513: the second adjustment, of A. -/
def adjustLow (add : Bool) (s : State) : State :=
  { s with a := if decimalLow add s then (if add then s.a + 6 else s.a - 6) else s.a }

/-- R512, R513: both adjustments, the second on the machine after the first. -/
def decimalAdjust (add : Bool) (s : State) : State :=
  setNZ8 (adjustLow add (adjustHigh add s)).a (adjustLow add (adjustHigh add s))

theorem adjustHigh_flagsOk {add : Bool} {s : State} (h : s.flagsOk) : (adjustHigh add s).flagsOk := h

theorem adjustHigh_eq (add : Bool) (s : State) :
    adjustHigh add s =
      if s.flags.c = add ∨ s.a > 0x99 then setC add { s with a := if add then s.a + 0x60 else s.a - 0x60 } else s := by
  have hhigh : decimalHigh add s = true ↔ s.flags.c = add ∨ s.a > 0x99 := by
    cases add <;> simp [decimalHigh, BitVec.lt_def]
  simp only [adjustHigh, hhigh]
  split <;> rfl

theorem lowNibble_gt_nine (v : Byte) : v &&& 0x0F > 0x09 ↔ v.toNat % 16 > 9 := by
  rw [gt_iff_lt, BitVec.lt_def, toNat_and_0x0F]
  rfl

theorem adjustLow_eq (add : Bool) {s : State} (h : s.flagsOk) :
    adjustLow add s =
      if s.hib s.flags.h = add ∨ s.a &&& 0x0F > 0x09 then { s with a := if add then s.a + 6 else s.a - 6 } else s := by
  have hlow : decimalLow add s = true ↔ s.hib s.flags.h = add ∨ s.a &&& 0x0F > 0x09 := by
    rw [State.hib_h_of_flagsOk h, lowNibble_gt_nine]
    cases add <;> simp [decimalLow]
  simp only [adjustLow, hlow]
  split <;> rfl

theorem decimalAdd_eq {s : State} (h : s.flagsOk) : decimalAdd s = decimalAdjust true s := by
  rw [decimalAdjust, adjustLow_eq true (adjustHigh_flagsOk h), adjustHigh_eq]
  rfl

theorem decimalSub_eq {s : State} (h : s.flagsOk) : decimalSub s = decimalAdjust false s := by
  rw [decimalAdjust, adjustLow_eq false (adjustHigh_flagsOk h), adjustHigh_eq]
  simp only [decimalSub, Bool.not_eq_true]
  rfl

theorem decimalForms_run :
    ∀ f ∈ decimalForms, f.Encoded ∧ ∀ s : State, s.flagsOk → exec f.instr s = .next (decimalAdjust f.shape s) := by
  intro f hf
  fin_cases hf
  · exact ⟨⟨rfl, rfl, rfl, rfl⟩, fun s h => congrArg Host.Outcome.next (decimalAdd_eq h)⟩
  · exact ⟨⟨rfl, rfl, rfl, rfl⟩, fun s h => congrArg Host.Outcome.next (decimalSub_eq h)⟩

/-- Settles O46: under legal flags both forms are a `decimalAdjust`. -/
theorem decimalAdjustsRun : Obligations.DecimalAdjustsRun := by
  intro f hf
  obtain ⟨hencoded, hexec⟩ := decimalForms_run f hf
  refine ⟨hencoded, fun s h => ?_⟩
  obtain ⟨hx, hsp, hsteady, hsame⟩ := ya_flags_leave (s := s) (t := decimalAdjust f.shape s) rfl
  exact ⟨decimalAdjust f.shape s, hexec s h, rfl, rfl, hx, rfl, hsp, hsteady, hsame⟩

/-! ### BRK and RETI -/

theorem State.packPsw_congr {s t : State} (h : t.flags = s.flags) (hp : t.params = s.params) :
    t.packPsw = s.packPsw := by
  simp only [State.packPsw, State.hib, h, hp]

/-- R514: the three bytes BRK pushes. -/
def pushPcPsw (s : State) : State := push s.packPsw (pushPc s)

theorem pushPcPsw_pushed (s : State) : Pushed [s.pc.hi, s.pc.lo, s.packPsw] s (pushPcPsw s) :=
  (pushPc_pushed s).push s.packPsw

theorem pushPcPsw_transferred (s : State) : Transferred s (pushPcPsw s) :=
  (pushPc_transferred s).trans (push_transferred _ _)

/-- R514: the pushes do not reach the vector, and the flags are written after the PSW is packed. -/
theorem enterBreak_eq (s : State) :
    enterBreak s =
      { pushPcPsw s with
        pc := Word.mk (s.peek 0xFFDF) (s.peek 0xFFDE)
        flags := { s.flags with b := decide (s.params.hibPolicy = .preserve), i := false } } := by
  have hpsw : (pushPc s).packPsw = s.packPsw := State.packPsw_congr (pushPc_flags s) (pushPc_params s)
  have hflags : (pushPcPsw s).flags = s.flags := (pushPcPsw_transferred s).flags
  have hhib : (pushPcPsw s).hib true = decide (s.params.hibPolicy = .preserve) := by
    rw [State.hib_true, (pushPcPsw_transferred s).machine.params]
  have hpeek {b : Word} (hb : 0x0200 ≤ b) : (pushPcPsw s).peek b = s.peek b :=
    ((pushPcPsw_pushed s).bytes b).trans (afterPushes_high _ _ _ _ hb)
  obtain ⟨hlo, hhi⟩ := tcallVector_high 0
  unfold enterBreak
  dsimp only
  rw [hpsw, jumpThrough_plain _ _ (refreshed_of_above_stack hlo) (refreshed_of_above_stack hhi), ← pushPcPsw, hhib,
    hflags, ← hpeek (b := 0xFFDF) (by decide), ← hpeek (b := 0xFFDE) (by decide)]
  rfl

/-- R515: RETI in the addresses of its three stack bytes. -/
theorem returnFromBreak_eq (s : State) :
    returnFromBreak s =
      { s with
        pc := Word.mk (s.peek (stackByte s 3)) (s.peek (stackByte s 2))
        sp := s.sp + 3
        flags := (s.unpackPsw (s.peek (stackByte s 1))).flags } := by
  have hsp2 : s.sp + 1 + 1 = s.sp + 2 := BitVec.add_assoc s.sp 1 1
  have hsp3 : s.sp + 1 + 2 = s.sp + 3 := BitVec.add_assoc s.sp 1 2
  unfold returnFromBreak
  rw [pop_eq]
  dsimp only
  rw [popPc_eq_stackByte]
  simp only [stackByte, State.unpackPsw, hsp2, hsp3]
  rfl

/-- R514, R515: the body of BRK, and of RETI. -/
def breakBody : Bool → State → State
  | true => enterBreak
  | false => returnFromBreak

theorem breakForms_run : ∀ f ∈ breakForms, f.Runs (breakBody f.shape) := by
  intro f hf
  fin_cases hf <;> exact ⟨⟨rfl, rfl, rfl, rfl⟩, fun _ => rfl⟩

/-- Settles O47: three pushes, the flags and the jump through the vector, or the pops of the same bytes. -/
theorem breakAndReturnRun : Obligations.BreakAndReturnRun := by
  intro f hf
  have hrun := breakForms_run f hf
  obtain ⟨_, _, _, _, _, enter⟩ := f
  refine ⟨hrun.encoded, fun s => ⟨breakBody enter s, hrun.exec_eq s, ?_⟩⟩
  cases enter with
  | true =>
    obtain ⟨hregs, -, htime, hhalted, hmachine⟩ := pushPcPsw_transferred s
    rw [breakBody, enterBreak_eq, if_pos rfl]
    exact ⟨hregs, htime, hhalted, { hmachine with }, rfl, (pushPcPsw_pushed s).of_same (.of_eq rfl rfl rfl) rfl, rfl⟩
  | false =>
    rw [breakBody, returnFromBreak_eq, if_neg Bool.false_ne_true]
    exact ⟨.of_eq rfl rfl rfl, rfl, rfl, by constructor <;> rfl, rfl, rfl, rfl, .of_eq rfl rfl rfl⟩

/-! ### SLEEP and STOP -/

theorem haltForms_run : ∀ f ∈ haltForms, f.Runs fun s => { s with halted := true } := by
  intro f hf
  fin_cases hf <;> exact ⟨⟨rfl, rfl, rfl, rfl⟩, fun _ => rfl⟩

/-- Settles O48: both forms write `halted` alone. -/
theorem haltsRun : Obligations.HaltsRun := by
  intro f hf
  have hrun := haltForms_run f hf
  exact ⟨hrun.encoded, fun s => ⟨_, hrun.exec_eq s, rfl, .of_eq rfl rfl rfl, rfl, rfl, rfl, rfl,
    by constructor <;> rfl, .of_eq rfl rfl rfl⟩⟩

end Sys2Proof.Machine
end

section
/-! PROOFS. How a step ends, and that a raised fault is final (R600, R604). -/

namespace Sys2Proof.Machine

/-! ### The outcomes of a machine without a fault -/

/-- R600: an outcome of a machine with no fault recorded: a next state with none, or a raised fault. -/
inductive NextOrRaised : Result → Prop where
  | next {t : State} (h : t.fault = none) : NextOrRaised (.next t)
  | raised (r : FaultRecord) (z : State) : NextOrRaised (r.raise z)

theorem exec_nextOrRaised (i : Instr) {s : State} (h : s.fault = none) : NextOrRaised (exec i s) := by
  obtain ⟨t, he, hm, -⟩ := bodiesRun i s
  rw [he]
  exact .next (hm.fault.trans h)

/-- R176: the IMPLEMENTED check raises the fault, no body does. -/
theorem runInstr_nextOrRaised (op : Byte) (opaddr : Word) {s : State} (h : s.fault = none) :
    NextOrRaised (runInstr op opaddr s) := by
  have hops : (fetchOperands op (commitCost op s)).2.2.fault = none :=
    (fetchOperands_keeps op _).machine.fault.trans h
  unfold runInstr
  dsimp only
  split
  · exact exec_nextOrRaised _ hops
  · exact .raised _ _

/-- R170-R177: the three ends of a run record no fault. -/
theorem cpuStep_nextOrRaised {s : State} (h : s.fault = none) : NextOrRaised (cpuStep s) := by
  have hfetch : (fetch s.pc s).2.fault = none := (fetch_fault _ _).trans h
  cases hh : s.halted with
  | true => exact cpuStep_of_halted hh ▸ .next h
  | false =>
    rcases Nat.lt_or_ge s.time s.target with ht | ht
    · by_cases hfit : Fits (fetch s.pc s).1 s
      · exact cpuStep_eq_runInstr hh ht hfit ▸ runInstr_nextOrRaised _ _ hfetch
      · exact cpuStep_of_not_fits hh ht hfit ▸ .next hfetch
    · exact cpuStep_of_target hh ht ▸ .next h

/-- R775: the first voice that selects an unsupported feature raises the fault. -/
theorem runVoices_nextOrRaised (vs : List (Fin 8)) (lsum rsum : Int) {s : State} (h : s.fault = none) :
    NextOrRaised (runVoices vs lsum rsum s) := by
  induction vs generalizing lsum rsum s with
  | nil => exact .next h
  | cons v vs ih =>
    unfold runVoices
    split
    · exact ih _ _ h
    · exact .raised _ _

theorem latchKeys_fault (s : State) : (latchKeys s).fault = s.fault := by
  unfold latchKeys
  split <;> rfl

theorem dspSample_nextOrRaised {s : State} (h : s.fault = none) : NextOrRaised (dspSample s) :=
  runVoices_nextOrRaised voiceOrder 0 0 ((latchKeys_fault s).trans h)

theorem inCall_fault (s : State) : (inCall s).fault = s.fault := by unfold inCall; split <;> rfl

theorem step_nextOrRaised {s : State} (h : s.fault = none) : NextOrRaised (step s) := by
  by_cases hp : s.phase = .dsp
  · exact step_dsp s h hp ▸ dspSample_nextOrRaised h
  · exact step_cpu s h hp ▸ cpuStep_nextOrRaised ((inCall_fault s).trans h)

/-! ### The frozen machine -/

/-- R600, R604: a step of any machine either leads from no fault to no fault, or raises a fault. -/
theorem step_cases (s : State) :
    (∃ t, step s = .next t ∧ s.fault = none ∧ t.fault = none) ∨ ∃ r z, step s = FaultRecord.raise r z := by
  cases hf : s.fault with
  | some r => exact .inr ⟨r, s, step_faulted s r hf⟩
  | none =>
    have h := step_nextOrRaised hf
    generalize step s = o at h ⊢
    cases h with
    | next ht => exact .inl ⟨_, rfl, rfl, ht⟩
    | raised r z => exact .inr ⟨r, z, rfl⟩

/-- R604: the machine frozen by a fault raises it again, and is the same when it is frozen once more. -/
theorem step_frozen (r : FaultRecord) (z : State) : step { z with fault := some r } = r.raise z := by
  rw [step_faulted _ r rfl]
  cases r <;> rfl

/-- Settles O9: a step raises only what `FaultRecord.raise` raises, and the machine it freezes raises the same. -/
theorem faultsAreTerminal : Obligations.FaultsAreTerminal := by
  intro s
  rcases step_cases s with ⟨t, hs, hfault, ht⟩ | ⟨r, z, hs⟩
  all_goals rw [hs]
  · exact ⟨hfault, ht⟩
  · have hfrozen := step_frozen r z
    cases r with
    | unknownOpcode op addr => exact ⟨rfl, hfrozen⟩
    | unsupportedFeature f v => exact ⟨rfl, hfrozen⟩

end Sys2Proof.Machine
end

section
/-! PROOFS. The three timers (R630-R642): what a synchronisation counts, and the read that clears. -/

namespace Sys2Proof.Machine

@[simp] theorem Timer.sync_last (rate t : Nat) (tm : Timer) : (tm.sync rate t).last = t := rfl

@[simp] theorem Timer.sync_period (rate t : Nat) (tm : Timer) : (tm.sync rate t).period rate = tm.period rate := rfl

theorem Timer.sync_counter_of_disabled {tm : Timer} (h : tm.enabled = false) (rate t : Nat) :
    (tm.sync rate t).counter = tm.counter := by
  simp [Timer.sync, h]

/-- R632: the ticks between two times are the difference of the multiples of the period below them. -/
theorem Timer.sync_counter_of_enabled {tm : Timer} (h : tm.enabled = true) (rate t : Nat) :
    ((tm.sync rate t).counter : Int) =
      ((tm.counter : Int) + ((t / tm.period rate : Nat) : Int) - ((tm.last / tm.period rate : Nat) : Int)) % 16 := by
  simp only [Timer.sync, h, if_true]
  omega

/-- R633: the ticks up to `t1` and those from `t1` to `t2` add up to the ticks up to `t2`. -/
theorem Timer.sync_sync (rate t1 t2 : Nat) (tm : Timer) : (tm.sync rate t1).sync rate t2 = tm.sync rate t2 := by
  have hc : ((tm.sync rate t1).sync rate t2).counter = (tm.sync rate t2).counter := by
    cases he : tm.enabled with
    | false =>
      have he1 : (tm.sync rate t1).enabled = false := he
      rw [sync_counter_of_disabled he1, sync_counter_of_disabled he, sync_counter_of_disabled he]
    | true =>
      have he1 : (tm.sync rate t1).enabled = true := he
      have h1 := sync_counter_of_enabled he rate t1
      have h2 := sync_counter_of_enabled he rate t2
      have h12 := sync_counter_of_enabled he1 rate t2
      rw [sync_period, sync_last] at h12
      omega
  change { tm with counter := _, last := t2 } = { tm with counter := _, last := t2 }
  exact congrArg (fun c => { tm with counter := c, last := t2 }) hc

/-- Settles O15: the counter by the two cases of `enabled`, and `Timer.sync_sync`. -/
theorem timerSync : Obligations.TimerSync := fun rate tm t1 t2 =>
  ⟨rfl, rfl, rfl, fun h => Timer.sync_counter_of_disabled h rate t1, fun h => Timer.sync_counter_of_enabled h rate t1,
    tm.sync_sync rate t1 t2⟩

/-- R642: a timer at 0 is still at 0 after fewer than 16 ticks exactly when it counted none. -/
theorem Timer.sync_counter_eq_zero {rate t : Nat} {tm : Timer} (h0 : tm.counter = 0) (ht : tm.last ≤ t)
    (hticks : t / tm.period rate - tm.last / tm.period rate < 16) :
    (tm.sync rate t).counter = 0 ↔ tm.enabled = false ∨ t / tm.period rate = tm.last / tm.period rate := by
  cases he : tm.enabled with
  | false => simp [sync_counter_of_disabled he, h0]
  | true =>
    have hcount := sync_counter_of_enabled he rate t
    have hmono : tm.last / tm.period rate ≤ t / tm.period rate := Nat.div_le_div_right ht
    simp only [Bool.true_eq_false, false_or]
    omega

/-- R637: a read of a timer in its range returns 0 where the synchronised counter is 0. -/
theorem Timer.readCounter_fst_eq_zero {tm : Timer} (h : tm.counter ≤ 15) (rate t : Nat) :
    (tm.readCounter rate t).1 = 0 ↔ (tm.sync rate t).counter = 0 := by
  have hle := tm.sync_counter_le rate t h
  have htoNat : (tm.readCounter rate t).1.toNat = (tm.sync rate t).counter % 256 := BitVec.toNat_ofNat ..
  rw [← BitVec.toNat_inj, htoNat]
  change _ = 0 ↔ _
  omega

/-- Settles O16: the operations as R635-R637 write them, and the second read by the ticks since the first. -/
theorem timerOperations : Obligations.TimerOperations := fun rate tm t1 t2 _ _ =>
  ⟨rfl, rfl, rfl, rfl, fun ht hticks =>
    (Timer.readCounter_fst_eq_zero (tm := (tm.readCounter rate t1).2) (Nat.zero_le _) rate t2).trans
      (Timer.sync_counter_eq_zero (tm := (tm.readCounter rate t1).2) rfl ht hticks)⟩

end Sys2Proof.Machine
end

section
/-! PROOFS. The start of a sample (R772-R774), the key-on delay, key-on and key-off (R702, R715). -/

namespace Sys2Proof.Machine

/-! ### The start of a sample -/

theorem latchKeys_of_everyOther {s : State} (h : s.everyOther = true) : latchKeys s = { s with everyOther := false } := by
  simp [latchKeys, h]

theorem latchKeys_of_not_everyOther {s : State} (h : s.everyOther = false) :
    latchKeys s =
      { s with
        everyOther := true, konLatch := s.dspRegs[0x4C], kofLatch := s.dspRegs[0x5C]
        dspRegs := (s.dspRegs.set 0x4C 0).set 0x5C 0 } := by
  simp only [latchKeys, h]
  rfl

/-- Settles O49, by the two kinds of sample. -/
theorem sampleBegins : Obligations.SampleBegins := by
  intro s
  cases h : s.everyOther with
  | true =>
    rw [latchKeys_of_everyOther h]
    exact ⟨rfl, fun _ => ⟨rfl, rfl, rfl⟩, nofun⟩
  | false =>
    rw [latchKeys_of_not_everyOther h]
    refine ⟨rfl, nofun, fun _ => ⟨rfl, rfl, fun k => ?_⟩⟩
    simp only [stepRateCounter, Fin.getElem_fin, Vector.getElem_set, Fin.ext_iff]
    grind

/-! ### The key-on delay -/

theorem Word.toNat_mk (hi lo : Byte) : (Word.mk hi lo).toNat = hi.toNat * 256 + lo.toNat := by
  rw [Word.mk, BitVec.toNat_append, ← Nat.shiftLeft_add_eq_or_of_lt lo.isLt, Nat.shiftLeft_eq]

/-- R672: the directory entry of a source, as a number. -/
theorem State.directoryEntry_eq (s : State) (v : Fin 8) :
    s.directoryEntry v = BitVec.ofNat 16 ((s.dspReg 0x5D).toNat * 256 + 4 * (s.voiceReg v 4).toNat) := by
  apply BitVec.eq_of_toNat_eq
  have := (s.voiceReg v 4).isLt
  simp only [State.directoryEntry, BitVec.toNat_add, BitVec.toNat_mul, Word.toNat_mk, BitVec.toNat_setWidth,
    BitVec.toNat_ofNat, BitVec.reduceToNat, Nat.reducePow]
  omega

/-- R702: of the delays 1 to 3 that are left the accumulator is at 0x4000. -/
theorem delay_mod_four_ne_zero {d : Nat} (h : d ≤ 4) : d % 4 ≠ 0 ↔ d = 1 ∨ d = 2 ∨ d = 3 := by omega

theorem keyOnDelay_of_zero {r : VoiceRun} (h : r.vo.konDelay = 0) (s : State) (v : Fin 8) : keyOnDelay s v r = r := by
  simp [keyOnDelay, h]

theorem keyOnDelay_of_succ {r : VoiceRun} {d : Nat} (h : r.vo.konDelay = d + 1) (s : State) (v : Fin 8) :
    keyOnDelay s v r =
      { vo :=
          { r.vo with
            konDelay := d, env := 0, pend := 0, interp := if d % 4 ≠ 0 then 0x4000 else 0
            brrAddr := if d = 4 then s.sampleStart v else r.vo.brrAddr
            brrOff := if d = 4 then 0 else r.vo.brrOff
            wpos := if d = 4 then 0 else r.vo.wpos }
        hdr := if d = 4 then 0 else r.hdr
        pitch := 0 } := by
  simp only [keyOnDelay, h, Nat.add_one_ne_zero, if_false, Nat.add_sub_cancel]
  by_cases hd : d = 4 <;> simp [hd]

/-- R715: key-on wins over key-off. -/
theorem keyOnOff_eq (s : State) (v : Fin 8) (vo : Voice) :
    keyOnOff s v vo =
      if s.everyOther ∧ s.konLatch.getLsbD v then { vo with konDelay := 5, mode := .attack }
      else if s.everyOther ∧ s.kofLatch.getLsbD v then { vo with mode := .release }
      else vo := by
  unfold keyOnOff
  generalize s.konLatch.getLsbD v = on
  generalize s.kofLatch.getLsbD v = off
  cases s.everyOther <;> cases on <;> cases off <;> rfl

/-- Settles O50: the delay by whether it runs, then key-on and key-off by their bits. -/
theorem keyOn : Obligations.KeyOn := by
  intro s v vo
  refine ⟨fun h => keyOnDelay_of_zero h s v, fun d h hd => ?_, keyOnOff_eq s v vo⟩
  rw [keyOnDelay_of_succ h, ← s.directoryEntry_eq]
  simp only [delay_mod_four_ne_zero hd]
  exact ⟨trivial, trivial, rfl⟩

end Sys2Proof.Machine
end

section
/-! PROOFS. The envelope (R720-R731): the table of RATE_FIRES and the step of each mode. -/

namespace Sys2Proof.Machine

/-! ### The table of RATE_FIRES -/

/-- A residue is met once in every period. -/
theorem countP_add_mod_eq_zero {n r : Nat} (o : Nat) (hr : 0 < r) (hn : n % r = 0) :
    (List.range n).countP (fun c => decide ((c + o) % r = 0)) = n / r := by
  have hshift (c : Nat) : (c + o) % r = 0 ↔ c ≡ r - o % r [MOD r] := by
    have hle := Nat.mod_lt o hr
    have hzero : (r - o % r + o) % r = 0 := by
      have : r - o % r + o = r * (o / r + 1) := by
        have := Nat.div_add_mod o r
        rw [Nat.mul_add]
        omega
      rw [this, Nat.mul_mod_right]
    rw [← hzero]
    exact ⟨Nat.ModEq.add_right_cancel' o, Nat.ModEq.add_right o⟩
  simp only [hshift]
  exact (Nat.count_modEq_card n hr _).trans (by simp [hn])

/-- R731: the columns PERIOD and OFFSET of rates 1 to 31; every period divides the cycle of the rate counter. -/
theorem rateTable_eq : ∀ rate < 32, rate ≠ 0 →
    (0 :: ratePeriods.tail).getD rate 0 = ratePeriods.getD rate 1 ∧
      (if rate ≥ 30 ∨ rate % 3 = 1 then 0 else if rate % 3 = 2 then 1040 else 536) = rateOffsets.getD rate 0 ∧
      0 < ratePeriods.getD rate 1 ∧ 30720 % ratePeriods.getD rate 1 = 0 := by
  decide

theorem standardRateFires_eq {rate : Nat} (h : rate ≠ 0) :
    standardRateFires rate = fun c => decide ((c + rateOffsets.getD rate 0) % ratePeriods.getD rate 1 = 0) := by
  funext c
  rw [standardRateFires, bne_iff_ne.mpr h, Bool.true_and]
  exact beq_eq_decide ..

/-! ### The step -/

/-- R724: the fall of DECAY and SUSTAIN, which is 0 at amplitude 0. -/
theorem decayed_eq (env : Nat) :
    (env : Int) - 1 - sar ((env : Int) - 1) 8 = ((env - 1 - (env - 1) / 256 : Nat) : Int) := by
  unfold sar
  omega

/-- R725, R726, R728: what a step makes of a new amplitude that is not negative. -/
theorem adsrStep_of_target {p : Params} {a1 a2 : Byte} {rc rate e : Nat} {vo : Voice}
    (h : envelopeTarget a1 a2 vo = (rate, (e : Int))) :
    adsrStep p a1 a2 rc vo =
      { vo with
        mode :=
          if vo.mode = .decay ∧ e / 256 = (a2 >>> 5).toNat then .sustain
          else if vo.mode = .attack ∧ e > 0x7FF then .decay
          else vo.mode
        pend := min e 0x7FF
        env := if p.rateFires rate rc then min e 0x7FF else vo.env } := by
  have hpend : (if (e : Int) > 0x7FF ∨ (e : Int) < 0 then (if (e : Int) < 0 then 0 else 0x7FF) else (e : Int)).toNat =
      min e 0x7FF := by split_ifs <;> omega
  have hlevel : sar (e : Int) 8 = (a2 >>> 5).toNat ↔ e / 256 = (a2 >>> 5).toNat := by
    unfold sar
    omega
  have hout : ((e : Int) > 0x7FF ∨ (e : Int) < 0) ↔ e > 0x7FF := by omega
  simp only [adsrStep, h, hpend, hlevel]
  simp only [hout]
  congr 1
  cases vo.mode with
  | release | attack | sustain => simp
  | decay =>
    generalize (a2 >>> 5).toNat = level
    by_cases hs : e / 256 = level <;> simp [hs]

/-! ### The registers -/

theorem getLsbD_seven (v : Byte) : v.getLsbD 7 = decide (128 ≤ v.toNat) := by
  have h := v.isLt
  rw [← BitVec.testBit_toNat, Nat.testBit_eq_decide_div_mod_eq, decide_eq_decide]
  omega

theorem toNat_and_0x1F (v : Byte) : (v &&& 0x1F).toNat = v.toNat % 32 :=
  (BitVec.toNat_and ..).trans (Nat.and_two_pow_sub_one_eq_mod v.toNat 5)

theorem toNat_ushiftRight_and_0x07 (v : Byte) : (v >>> 4 &&& 0x07).toNat = v.toNat / 16 % 8 := by
  rw [BitVec.toNat_and, BitVec.toNat_ushiftRight, Nat.shiftRight_eq_div_pow]
  exact Nat.and_two_pow_sub_one_eq_mod _ 3

theorem toNat_ushiftRight_five (v : Byte) : (v >>> 5).toNat = v.toNat / 32 := by
  rw [BitVec.toNat_ushiftRight, Nat.shiftRight_eq_div_pow]

/-! ### The modes -/

theorem envelopeStep_of_adsr {s : State} {v : Fin 8} {vo : Voice} (hd : vo.konDelay = 0) (hm : vo.mode ≠ .release)
    (h : 128 ≤ (s.voiceReg v 5).toNat) :
    envelopeStep s v vo = .ok (adsrStep s.params (s.voiceReg v 5) (s.voiceReg v 6) s.rateCounter vo) := by
  have hbit : (s.voiceReg v 5).getLsbD 7 = true := (getLsbD_seven _).trans (decide_eq_true h)
  simp only [envelopeStep, hd, hm, hbit, ne_eq, not_true_eq_false, if_false, if_true]

theorem envelopeStep_of_gain {s : State} {v : Fin 8} {vo : Voice} (hd : vo.konDelay = 0) (hm : vo.mode ≠ .release)
    (h : (s.voiceReg v 5).toNat < 128) : envelopeStep s v vo = .error .gain := by
  have hbit : (s.voiceReg v 5).getLsbD 7 = false := (getLsbD_seven _).trans (decide_eq_false (Nat.not_le_of_lt h))
  simp only [envelopeStep, hd, hm, hbit, ne_eq, not_true_eq_false, Bool.false_eq_true, if_false]

/-- R723: the rate of ATTACK and its new amplitude. -/
theorem envelopeTarget_attack {vo : Voice} (h : vo.mode = .attack) (a1 a2 : Byte) :
    envelopeTarget a1 a2 vo =
      (a1.toNat % 16 * 2 + 1, ((vo.env + if a1.toNat % 16 * 2 + 1 = 31 then 0x400 else 0x20 : Nat) : Int)) := by
  simp only [envelopeTarget, h, toNat_and_0x0F]
  congr 1
  split_ifs <;> omega

/-- R724: the rate of DECAY and its new amplitude. -/
theorem envelopeTarget_decay {vo : Voice} (h : vo.mode = .decay) (a1 a2 : Byte) :
    envelopeTarget a1 a2 vo =
      (a1.toNat / 16 % 8 * 2 + 16, ((vo.env - 1 - (vo.env - 1) / 256 : Nat) : Int)) := by
  simp only [envelopeTarget, h, toNat_ushiftRight_and_0x07, decayed_eq]

/-- R724: the rate of SUSTAIN and its new amplitude. -/
theorem envelopeTarget_sustain {vo : Voice} (h : vo.mode = .sustain) (a1 a2 : Byte) :
    envelopeTarget a1 a2 vo = (a2.toNat % 32, ((vo.env - 1 - (vo.env - 1) / 256 : Nat) : Int)) := by
  simp only [envelopeTarget, h, toNat_and_0x1F, decayed_eq]

/-- Settles O51: the table by its columns, a rate's count by its period, and the step by the mode. -/
theorem envelopeStepRule : Obligations.EnvelopeStep := by
  refine ⟨fun rate hr => ⟨fun c => ?_, fun h0 => ?_⟩, fun s v vo henv => ?_⟩
  · by_cases h0 : rate = 0
    · subst h0; rfl
    obtain ⟨hp, ho, -, -⟩ := rateTable_eq rate hr h0
    rw [Params.rateFires_standard, standardRateFires_eq h0, ← hp, ← ho]
    exact decide_eq_decide.mpr (and_iff_right h0).symm
  · obtain ⟨hp, -, hpos, hdvd⟩ := rateTable_eq rate hr h0
    rw [← hp] at hpos hdvd
    refine ⟨hdvd, ?_⟩
    have hfires : Params.standard.rateFires rate = standardRateFires rate := rfl
    rw [hfires, standardRateFires_eq h0, ← hp]
    exact countP_add_mod_eq_zero _ hpos hdvd
  · have hdown : vo.env - 1 - (vo.env - 1) / 256 ≤ 0x7FF := by omega
    refine ⟨fun hd => ?_, fun hd hm => ?_, envelopeStep_of_gain, fun hd hm h => ?_, fun hd hm h => ?_, fun hd hm h => ?_⟩
    · simp [envelopeStep, hd]
    · simp [envelopeStep, hd, hm, releaseStep]
    · rw [envelopeStep_of_adsr hd (by simp [hm]) h, adsrStep_of_target (envelopeTarget_attack hm _ _)]
      simp [hm]
    · rw [envelopeStep_of_adsr hd (by simp [hm]) h, adsrStep_of_target (envelopeTarget_decay hm _ _)]
      simp only [toNat_ushiftRight_five]
      simp [hm, Nat.min_eq_left hdown]
    · rw [envelopeStep_of_adsr hd (by simp [hm]) h, adsrStep_of_target (envelopeTarget_sustain hm _ _)]
      simp [hm, Nat.min_eq_left hdown]

end Sys2Proof.Machine
end

section
/-! PROOFS. How a voice step ends (R700, R710-R712, R721): with its voice and its pair, or with the first feature that the core
does not implement. -/

namespace Sys2Proof.Machine

/-! ### The parts that can fail -/

/-- R712: the selected feature is the first of the three registers with the voice's bit set. -/
theorem featureSelected_eq (s : State) (v : Fin 8) :
    match featureSelected s v with
    | some .noise => (s.dspReg 0x3D).getLsbD v = true
    | some .echo => (s.dspReg 0x3D).getLsbD v = false ∧ (s.dspReg 0x4D).getLsbD v = true
    | some .pitchmod =>
      (s.dspReg 0x3D).getLsbD v = false ∧ (s.dspReg 0x4D).getLsbD v = false ∧ (s.dspReg 0x2D).getLsbD v = true
    | some .gain => False
    | none =>
      (s.dspReg 0x3D).getLsbD v = false ∧ (s.dspReg 0x4D).getLsbD v = false ∧ (s.dspReg 0x2D).getLsbD v = false := by
  unfold featureSelected
  generalize (s.dspReg 0x3D).getLsbD v = noise
  generalize (s.dspReg 0x4D).getLsbD v = echo
  generalize (s.dspReg 0x2D).getLsbD v = pitchmod
  cases noise <;> cases echo <;> cases pitchmod <;> simp

theorem voiceOutput_of_silent {s : State} {v : Fin 8} {vo : Voice} (h : vo.env = 0) : voiceOutput s v vo = .ok (0, 0) := by
  simp [voiceOutput, h]

theorem voiceOutput_of_sounding {s : State} {v : Fin 8} {vo : Voice} (h : vo.env ≠ 0) :
    voiceOutput s v vo =
      match featureSelected s v with
      | some f => .error f
      | none => .ok (voiceMix s v vo) :=
  if_neg h

theorem voiceOutput_error {s : State} {v : Fin 8} {vo : Voice} {f : Feature} (h : voiceOutput s v vo = .error f) :
    vo.env ≠ 0 ∧ featureSelected s v = some f := by
  by_cases hs : vo.env = 0
  · rw [voiceOutput_of_silent hs] at h; cases h
  · rw [voiceOutput_of_sounding hs] at h
    cases hf : featureSelected s v <;> rw [hf] at h <;> cases h
    exact ⟨hs, rfl⟩

theorem voiceOutput_ok {s : State} {v : Fin 8} {vo : Voice} {lr : Int × Int} (h : voiceOutput s v vo = .ok lr) :
    (vo.env ≠ 0 → featureSelected s v = none) ∧ lr = if vo.env = 0 then (0, 0) else voiceMix s v vo := by
  by_cases hs : vo.env = 0
  · rw [voiceOutput_of_silent hs] at h; cases h
    exact ⟨absurd hs, (if_pos hs).symm⟩
  · rw [voiceOutput_of_sounding hs] at h
    cases hf : featureSelected s v <;> rw [hf] at h <;> cases h
    exact ⟨fun _ => rfl, (if_neg hs).symm⟩

/-- R721: a voice past its delay, not in RELEASE, whose ADSR1 selects GAIN. -/
def GainSelected (s : State) (v : Fin 8) (vo : Voice) : Prop :=
  vo.konDelay = 0 ∧ vo.mode ≠ .release ∧ (s.voiceReg v 5).getLsbD 7 = false

/-- R721: the envelope step fails for GAIN alone. -/
theorem envelopeStep_cases (s : State) (v : Fin 8) (vo : Voice) :
    (envelopeStep s v vo = .error .gain ∧ GainSelected s v vo) ∨
      ∃ w, envelopeStep s v vo = .ok w ∧ ¬ GainSelected s v vo := by
  unfold envelopeStep GainSelected
  by_cases hd : vo.konDelay = 0
  · by_cases hm : vo.mode = .release
    · exact .inr ⟨_, by simp only [hd, hm]; rfl, fun h => h.2.1 hm⟩
    · cases hb : (s.voiceReg v 5).getLsbD 7 with
      | false => exact .inl ⟨by simp [hd, hm], hd, hm, rfl⟩
      | true => exact .inr ⟨_, by simp only [hd, hm]; rfl, by simp⟩
  · exact .inr ⟨vo, by simp [hd], fun h => hd h.1⟩

/-! ### The voice step -/

theorem voiceStep_unsupported {s : State} {v : Fin 8} {f : Feature} {w : Voice} (h : voiceStep s v = .unsupported f w) :
    let vo := (keyOnDelay s v (voiceFetch s v)).vo
    voiceOutput s v vo = .error f ∨
      ∃ lr, voiceOutput s v vo = .ok lr ∧ envelopeStep s v (keyOnOff s v vo) = .error f := by
  unfold voiceStep at h
  dsimp only at h ⊢
  split at h
  · cases h; exact .inl ‹_›
  · split at h
    · cases h; exact .inr ⟨_, ‹_›, ‹_›⟩
    · cases h

theorem voiceStep_done {s : State} {v : Fin 8} {vo : Voice} {l r : Int} (h : voiceStep s v = .done vo l r) :
    let run := keyOnDelay s v (voiceFetch s v)
    voiceOutput s v run.vo = .ok (l, r) ∧
      ∃ w, envelopeStep s v (keyOnOff s v run.vo) = .ok w ∧ vo = accumulate s v { run with vo := w } := by
  unfold voiceStep at h
  dsimp only at h ⊢
  split at h
  · cases h
  · split at h
    · cases h
    · cases h; exact ⟨‹_›, _, ‹_›, rfl⟩

/-- Settles O52: part 3 fails by the registers of R712, part 5 by the conditions of R721, and no other part fails. -/
theorem unsupportedFeatures : Obligations.UnsupportedFeatures := by
  intro s v
  have hfeature := featureSelected_eq s v
  cases hv : voiceStep s v with
  | done vo l r =>
    obtain ⟨hout, w, henv, -⟩ := voiceStep_done hv
    obtain ⟨hnone, hpair⟩ := voiceOutput_ok hout
    refine ⟨fun hs => ?_, fun hgain => ?_, fun hs => ?_⟩
    · rw [hnone hs] at hfeature
      exact hfeature
    · obtain ⟨hg, -⟩ | ⟨w', -, hg⟩ := envelopeStep_cases s v (keyOnOff s v (keyOnDelay s v (voiceFetch s v)).vo)
      · rw [hg] at henv; cases henv
      · exact hg hgain
    · rw [if_pos (not_not.mp hs)] at hpair
      exact Prod.mk.inj hpair
  | unsupported f w =>
    obtain herr | ⟨lr, hout, herr⟩ := voiceStep_unsupported hv
    · obtain ⟨hs, hf⟩ := voiceOutput_error herr
      rw [hf] at hfeature
      cases f with
      | gain => exact hfeature.elim
      | noise | echo | pitchmod => exact ⟨hs, hfeature⟩
    · obtain ⟨hg, hgain⟩ | ⟨w', hok, -⟩ := envelopeStep_cases s v (keyOnOff s v (keyOnDelay s v (voiceFetch s v)).vo)
      · rw [hg] at herr; cases herr
        refine ⟨fun hs => ?_, hgain⟩
        rw [(voiceOutput_ok hout).1 hs] at hfeature
        exact hfeature
      · rw [hok] at herr; cases herr

end Sys2Proof.Machine
end

section
/-! PROOFS. Interpolation and the voice's pair (R713, R714), and their bounds under the default GAUSS (R741, R777). -/

namespace Sys2Proof.Machine

/-! ### The default GAUSS -/

/-- R741: entries 0 to 255. -/
def gaussLow : List Int := gaussPart0 ++ gaussPart1

/-- R741: entries 256 to 511. -/
def gaussHigh : List Int := gaussPart2 ++ gaussPart3

theorem standardWeight_eq (k : Nat) : Params.standard.weight k = gaussTable[k]?.getD 0 := by
  simp [Params.weight, Params.standard, standardGauss]

theorem gaussTable_eq : gaussTable = gaussLow ++ gaussHigh := (List.append_assoc ..).symm

theorem gaussLow_length : gaussLow.length = 256 := by decide +kernel

theorem gaussHigh_length : gaussHigh.length = 256 := by decide +kernel

theorem gaussLow_getElem? {k : Nat} (h : k < 256) : gaussLow[k]? = some (Params.standard.weight k) := by
  rw [← gaussLow_length] at h
  rw [standardWeight_eq, gaussTable_eq, List.getElem?_append_left h, List.getElem?_eq_getElem h, Option.getD_some]

theorem gaussHigh_getElem? {k : Nat} (h : k < 256) : gaussHigh[k]? = some (Params.standard.weight (256 + k)) := by
  have hlow : gaussLow.length ≤ 256 + k := by rw [gaussLow_length]; exact Nat.le_add_right 256 k
  rw [← gaussHigh_length] at h
  rw [standardWeight_eq, gaussTable_eq, List.getElem?_append_right hlow, gaussLow_length, Nat.add_sub_cancel_left,
    List.getElem?_eq_getElem h, Option.getD_some]

theorem gaussTable_isChain : gaussTable.IsChain (· ≤ ·) := by decide +kernel

theorem standardWeight_mono {k : Nat} (h : k < 511) : Params.standard.weight k ≤ Params.standard.weight (k + 1) := by
  have hlen : gaussTable.length = 512 := by decide +kernel
  rw [standardWeight_eq, standardWeight_eq, List.getElem?_eq_getElem (by omega), List.getElem?_eq_getElem (by omega)]
  exact gaussTable_isChain.getElem k (by omega)

theorem standardWeight_nonneg {k : Nat} (h : k < 512) : 0 ≤ Params.standard.weight k := by
  induction k with
  | zero => decide
  | succ k ih => exact (ih (by omega)).trans (standardWeight_mono (by omega))

/-- R741: the sums of the four weights at the fractions 0 to 255, in order. -/
def gaussSums : List Int :=
  List.zipWith (· + ·) (List.zipWith (· + ·) gaussLow.reverse gaussHigh.reverse) (List.zipWith (· + ·) gaussHigh gaussLow)

theorem gaussSums_bounds : ∀ w ∈ gaussSums, 2047 ≤ w ∧ w ≤ 2049 := by decide +kernel

theorem gaussSums_getElem? {o : Nat} (h : o < 256) :
    gaussSums[o]? = some (Params.standard.weight (255 - o) + Params.standard.weight (511 - o) +
      Params.standard.weight (256 + o) + Params.standard.weight o) := by
  have hrev : 255 - o < 256 := by omega
  have hhigh : 256 + (255 - o) = 511 - o := by omega
  rw [gaussSums, List.getElem?_zipWith, List.getElem?_zipWith, List.getElem?_zipWith,
    List.getElem?_reverse (gaussLow_length ▸ h), List.getElem?_reverse (gaussHigh_length ▸ h), gaussLow_length,
    gaussHigh_length, gaussLow_getElem? hrev, gaussHigh_getElem? hrev, gaussHigh_getElem? h, gaussLow_getElem? h, hhigh]
  simp only [add_assoc]

/-- R741: the four weights of a fraction sum to 2048, give or take 1. -/
theorem standardWeight_sum {o : Nat} (h : o < 256) :
    let weight := Params.standard.weight
    2047 ≤ weight (255 - o) + weight (511 - o) + weight (256 + o) + weight o ∧
      weight (255 - o) + weight (511 - o) + weight (256 + o) + weight o ≤ 2049 :=
  gaussSums_bounds _ (List.mem_of_getElem? (gaussSums_getElem? h))

/-! ### The bounds -/

theorem weighted_sample_bounds {w x : Int} (hw : 0 ≤ w) (hx : -32768 ≤ x ∧ x ≤ 32767) :
    w * -32768 ≤ w * x ∧ w * x ≤ w * 32768 :=
  ⟨mul_le_mul_of_nonneg_left hx.1 hw, mul_le_mul_of_nonneg_left (by omega) hw⟩

/-- R777: four 16-bit samples under weights that are not negative and sum to at most 2049. -/
theorem interpolate_bound {p : Params} {vo : Voice} (hp : p.gauss = Params.standard.gauss) (h : vo.Ok) :
    |interpolate p vo| < 32785 := by
  have hw : p.weight = Params.standard.weight := by funext k; rw [Params.weight, hp, Params.weight]
  have ho : vo.interp / 16 % 256 < 256 := Nat.mod_lt _ (by decide)
  have term {k : Nat} (hk : k < 512) (i : Nat) := weighted_sample_bounds (standardWeight_nonneg hk) (h.range i)
  have t0 := term (k := 255 - vo.interp / 16 % 256) (by omega) (vo.wpos + vo.interp / 4096)
  have t1 := term (k := 511 - vo.interp / 16 % 256) (by omega) (vo.wpos + vo.interp / 4096 + 1)
  have t2 := term (k := 256 + vo.interp / 16 % 256) (by omega) (vo.wpos + vo.interp / 4096 + 2)
  have t3 := term (k := vo.interp / 16 % 256) (by omega) (vo.wpos + vo.interp / 4096 + 3)
  obtain ⟨-, hsum⟩ := standardWeight_sum ho
  rw [interpolate, hw, sar, abs_lt]
  omega

/-- R714: an amplitude below 2048 does not make the sample larger, a signed volume at most 128 times as large. -/
theorem scaled_bound {g : Int} {env : Nat} (hg : |g| < 32785) (he : env ≤ 0x7FF) (vol : Byte) :
    |sar (g * env) 11 * vol.toInt| ≤ 32785 * 128 := by
  have hout : |sar (g * env) 11| ≤ 32785 := by
    have hprod : |g * env| ≤ 32785 * 0x7FF := by
      rw [abs_mul, Nat.abs_cast]
      exact mul_le_mul hg.le (Int.ofNat_le.mpr he) (Int.natCast_nonneg _) (by decide)
    rw [abs_le] at hprod
    rw [sar, abs_le]
    omega
  have hvol : |vol.toInt| ≤ 128 := by
    have := vol.two_mul_toInt_lt
    have := vol.le_two_mul_toInt
    rw [abs_le]
    omega
  rw [abs_mul]
  exact mul_le_mul hout hvol (abs_nonneg _) (by decide)

/-- Settles O53: R713 and R714 as written, the table by its entries, and the two bounds. -/
theorem interpolationBounds : Obligations.InterpolationBounds := by
  refine ⟨fun s v vo => ⟨rfl, rfl, fun hw hi => ?_⟩, ⟨by decide +kernel, by decide +kernel, by decide +kernel,
    by decide +kernel, fun _ => standardWeight_mono, fun _ => standardWeight_sum⟩, fun s v vo hp h => ?_⟩
  · omega
  · have hg := interpolate_bound hp h
    exact ⟨hg, scaled_bound hg h.env _, scaled_bound hg h.env _⟩

end Sys2Proof.Machine
end

section
/-! PROOFS. BRR decoding (R750-R760): the sample of a nibble, the four of a block-step, and the move to the next data bytes. -/

namespace Sys2Proof.Machine

/-! ### One nibble -/

/-- R751-R753: the sample a nibble is stored as. -/
def brrSample (hdr : Byte) (nibble : Nat) (vo : Voice) : Int :=
  wrap16 (clamp16 (brrBase (hdr >>> 4).toNat (sext4 nibble) +
    brrFilter (hdr >>> 2 &&& 3).toNat (vo.slot (vo.wpos + 11)) (sar (vo.slot (vo.wpos + 10)) 1)) * 2)

theorem brrNibble_slot (hdr : Byte) (nibble : Nat) {vo : Voice} (h : vo.wpos < 12) (i : Nat) :
    (brrNibble hdr nibble vo).slot i = if i = vo.wpos ∨ i = vo.wpos + 12 then brrSample hdr nibble vo else vo.slot i := by
  have hring : (brrNibble hdr nibble vo).ring =
      (vo.ring.setIfInBounds vo.wpos (brrSample hdr nibble vo)).setIfInBounds (vo.wpos + 12) (brrSample hdr nibble vo) :=
    rfl
  simp only [Voice.slot, hring, Vector.getElem?_setIfInBounds]
  grind

@[simp] theorem brrNibble_wpos (hdr : Byte) (nibble : Nat) (vo : Voice) :
    (brrNibble hdr nibble vo).wpos = vo.wpos + 1 := rfl

theorem brrNibble_slot_self (hdr : Byte) (nibble : Nat) {vo : Voice} {i : Nat} (h : vo.wpos < 12) (hi : i = vo.wpos) :
    (brrNibble hdr nibble vo).slot i = brrSample hdr nibble vo := by
  rw [brrNibble_slot hdr nibble h, if_pos (.inl hi)]

theorem brrNibble_slot_other (hdr : Byte) (nibble : Nat) {vo : Voice} {i : Nat} (h : vo.wpos < 12) (hi : i < 12)
    (hne : i ≠ vo.wpos) : (brrNibble hdr nibble vo).slot i = vo.slot i := by
  rw [brrNibble_slot hdr nibble h, if_neg (by omega)]

/-- R751: a nibble is a signed number of 4 bits. -/
theorem sext4_eq {nibble : Nat} (h : nibble < 16) : sext4 nibble = if nibble < 8 then (nibble : Int) else nibble - 16 := by
  rw [sext4, Nat.mod_eq_of_lt h]

theorem toNat_ushiftRight_four (v : Byte) : (v >>> 4).toNat = v.toNat / 16 := by
  rw [BitVec.toNat_ushiftRight, Nat.shiftRight_eq_div_pow]

theorem toNat_ushiftRight_two_and_three (v : Byte) : (v >>> 2 &&& 3).toNat = v.toNat / 4 % 4 := by
  rw [BitVec.toNat_and, BitVec.toNat_ushiftRight, Nat.shiftRight_eq_div_pow]
  exact Nat.and_two_pow_sub_one_eq_mod _ 2

/-- R752: the filters by their number. -/
theorem brrFilter_eq {filter : Nat} (h : filter < 4) (p1 p2 : Int) :
    brrFilter filter p1 p2 =
      if filter = 0 then 0
      else if filter = 1 then p1 / 2 + -p1 / 32
      else if filter = 2 then p1 - p2 + p2 / 16 + p1 * -3 / 64
      else p1 - p2 + p1 * -13 / 128 + p2 * 3 / 16 := by
  match filter, h with
  | 0, _ | 1, _ | 2, _ | 3, _ => rfl

/-- R751-R753: the sample as the rules write it. -/
theorem brrSample_eq (hdr : Byte) {nibble : Nat} (h : nibble < 16) (vo : Voice) :
    let shift := hdr.toNat / 16
    let filter := hdr.toNat / 4 % 4
    let n : Int := if nibble < 8 then nibble else nibble - 16
    let base : Int := if shift ≤ 12 then n * 2 ^ shift / 2 else if n < 0 then -2048 else 0
    let p1 := vo.slot (vo.wpos + 11)
    let p2 := vo.slot (vo.wpos + 10) / 2
    let added : Int :=
      if filter = 0 then 0
      else if filter = 1 then p1 / 2 + -p1 / 32
      else if filter = 2 then p1 - p2 + p2 / 16 + p1 * -3 / 64
      else p1 - p2 + p1 * -13 / 128 + p2 * 3 / 16
    brrSample hdr nibble vo = (max (-32768) (min 32767 (base + added)) * 2 + 0x8000) % 0x10000 - 0x8000 := by
  rw [brrSample, toNat_ushiftRight_four, toNat_ushiftRight_two_and_three, sext4_eq h,
    brrFilter_eq (Nat.mod_lt _ (by decide))]
  rfl

theorem toNat_lt_four_of_and_eq_zero : ∀ hdr : Byte, hdr &&& 0xFC = 0 → hdr.toNat < 4 := by decide +kernel

/-- R760: twice the floored half of a nibble. -/
def brrRaw (nibble : Nat) : Int := 2 * ((if nibble < 8 then (nibble : Int) else (nibble : Int) - 16) / 2)

/-- R760: with filter 0 and shift 0 the past samples do not matter. -/
theorem brrSample_raw {hdr : Byte} (h : hdr &&& 0xFC = 0) {nibble : Nat} (hn : nibble < 16) (vo : Voice) :
    brrSample hdr nibble vo = brrRaw nibble := by
  have hlt := toNat_lt_four_of_and_eq_zero hdr h
  have hshift : hdr.toNat / 16 = 0 := by omega
  have hfilter : hdr.toNat / 4 % 4 = 0 := by omega
  rw [brrSample, toNat_ushiftRight_four, toNat_ushiftRight_two_and_three, hshift, hfilter, sext4_eq hn]
  simp only [brrRaw, brrBase, brrFilter, sar, clamp16, wrap16]
  split_ifs <;> omega

/-! ### Four nibbles -/

/-- R750: the voice after the four nibbles of two data bytes, before the cursor wraps. -/
def brrNibbles (hdr d1 d2 : Byte) (vo : Voice) : Voice :=
  let vo1 := brrNibble hdr (d1.toNat % 16) (brrNibble hdr (d1.toNat / 16) vo)
  brrNibble hdr (d2.toNat % 16) (brrNibble hdr (d2.toNat / 16) vo1)

theorem brrNibbles_slot_outside (hdr d1 d2 : Byte) {vo : Voice} {i : Nat} (h : vo.wpos + 3 < 12) (hi : i < 12)
    (hout : i < vo.wpos ∨ vo.wpos + 4 ≤ i) : (brrNibbles hdr d1 d2 vo).slot i = vo.slot i := by
  rw [brrNibbles, brrNibble_slot_other, brrNibble_slot_other, brrNibble_slot_other, brrNibble_slot_other]
  all_goals grind [brrNibble_wpos]

/-- R750, R760: the four samples in order, the high nibble of each byte first. -/
theorem brrNibbles_slot_raw {hdr : Byte} (hhdr : hdr &&& 0xFC = 0) (d1 d2 : Byte) {vo : Voice} (h : vo.wpos + 3 < 12) :
    (brrNibbles hdr d1 d2 vo).slot vo.wpos = brrRaw (d1.toNat / 16) ∧
      (brrNibbles hdr d1 d2 vo).slot (vo.wpos + 1) = brrRaw (d1.toNat % 16) ∧
      (brrNibbles hdr d1 d2 vo).slot (vo.wpos + 2) = brrRaw (d2.toNat / 16) ∧
      (brrNibbles hdr d1 d2 vo).slot (vo.wpos + 3) = brrRaw (d2.toNat % 16) := by
  have high (d : Byte) : d.toNat / 16 < 16 := by have := d.isLt; omega
  have low (d : Byte) : d.toNat % 16 < 16 := Nat.mod_lt _ (by decide)
  have h0 : (brrNibbles hdr d1 d2 vo).slot vo.wpos = brrRaw (d1.toNat / 16) := by
    rw [brrNibbles, brrNibble_slot_other, brrNibble_slot_other, brrNibble_slot_other, brrNibble_slot_self,
      brrSample_raw hhdr (high d1)]
    all_goals grind [brrNibble_wpos]
  have h1 : (brrNibbles hdr d1 d2 vo).slot (vo.wpos + 1) = brrRaw (d1.toNat % 16) := by
    rw [brrNibbles, brrNibble_slot_other, brrNibble_slot_other, brrNibble_slot_self, brrSample_raw hhdr (low d1)]
    all_goals grind [brrNibble_wpos]
  have h2 : (brrNibbles hdr d1 d2 vo).slot (vo.wpos + 2) = brrRaw (d2.toNat / 16) := by
    rw [brrNibbles, brrNibble_slot_other, brrNibble_slot_self, brrSample_raw hhdr (high d2)]
    all_goals grind [brrNibble_wpos]
  have h3 : (brrNibbles hdr d1 d2 vo).slot (vo.wpos + 3) = brrRaw (d2.toNat % 16) := by
    rw [brrNibbles, brrNibble_slot_self, brrSample_raw hhdr (low d2)]
    all_goals grind [brrNibble_wpos]
  exact ⟨h0, h1, h2, h3⟩

/-- R754: the cursor of a legal voice moves on by 4, modulo 12. -/
theorem brrDecode_eq (hdr d1 d2 : Byte) {vo : Voice} (h : vo.wpos = 0 ∨ vo.wpos = 4 ∨ vo.wpos = 8) :
    brrDecode hdr d1 d2 vo = { vo with ring := (brrNibbles hdr d1 d2 vo).ring, wpos := (vo.wpos + 4) % 12 } := by
  unfold brrDecode
  rcases h with h | h | h <;> simp [brrNibble, brrNibbles, h]

/-! ### The move to the next data bytes -/

theorem brrAdvance_within {vo : Voice} (h : vo.brrOff ≠ 6) (s : State) (v : Fin 8) (hdr : Byte) :
    brrAdvance s v hdr vo = { vo with brrOff := vo.brrOff + 2 } := by
  have : vo.brrOff + 2 ≠ 8 := by omega
  rw [brrAdvance, if_neg this]

theorem brrAdvance_next {vo : Voice} {hdr : Byte} (h : vo.brrOff = 6) (he : hdr.getLsbD 0 = false) (s : State)
    (v : Fin 8) : brrAdvance s v hdr vo = { vo with brrAddr := vo.brrAddr + 9, brrOff := 0 } := by
  simp only [brrAdvance, h, he]
  rfl

theorem brrAdvance_loop {vo : Voice} {hdr : Byte} (h : vo.brrOff = 6) (he : hdr.getLsbD 0 = true)
    (hl : hdr.getLsbD 1 = true) (s : State) (v : Fin 8) :
    brrAdvance s v hdr vo = { vo with brrAddr := s.sampleLoop v, brrOff := 0 } := by
  simp only [brrAdvance, h, he, hl]
  rfl

theorem brrAdvance_end {vo : Voice} {hdr : Byte} (h : vo.brrOff = 6) (he : hdr.getLsbD 0 = true)
    (hl : hdr.getLsbD 1 = false) (s : State) (v : Fin 8) :
    brrAdvance s v hdr vo = { vo with mode := .release, env := 0, pend := 0, brrAddr := 0, brrOff := 0 } := by
  simp only [brrAdvance, h, he, hl]
  rfl

/-- R755: the ring, the cursor, the key-on delay and the accumulator are as decoding left them. -/
theorem brrAdvance_keeps (s : State) (v : Fin 8) (hdr : Byte) (vo : Voice) :
    (brrAdvance s v hdr vo).ring = vo.ring ∧ (brrAdvance s v hdr vo).wpos = vo.wpos ∧
      (brrAdvance s v hdr vo).konDelay = vo.konDelay ∧ (brrAdvance s v hdr vo).interp = vo.interp := by
  by_cases h : vo.brrOff = 6
  · cases he : hdr.getLsbD 0 with
    | false => rw [brrAdvance_next h he]; exact ⟨rfl, rfl, rfl, rfl⟩
    | true =>
      cases hl : hdr.getLsbD 1 with
      | false => rw [brrAdvance_end h he hl]; exact ⟨rfl, rfl, rfl, rfl⟩
      | true => rw [brrAdvance_loop h he hl]; exact ⟨rfl, rfl, rfl, rfl⟩
  · rw [brrAdvance_within h]; exact ⟨rfl, rfl, rfl, rfl⟩

/-! ### The block-step -/

/-- R750: the data bytes stand after the header. -/
theorem brrData_addr (vo : Voice) (n : Nat) :
    vo.brrAddr + BitVec.ofNat 16 vo.brrOff + BitVec.ofNat 16 n = vo.brrAddr + BitVec.ofNat 16 (vo.brrOff + n) := by
  rw [BitVec.ofNat_add, BitVec.add_assoc]

/-- R750, R754: a block-step moves on from the decoded voice, whose ring and cursor alone are new. -/
theorem blockStep_eq (s : State) (v : Fin 8) (hdr : Byte) {vo : Voice} (h : vo.Ok) :
    let d1 := s.peek (vo.brrAddr + BitVec.ofNat 16 (vo.brrOff + 1))
    let d2 := s.peek (vo.brrAddr + BitVec.ofNat 16 (vo.brrOff + 2))
    ∃ w, blockStep s v hdr vo = brrAdvance s v hdr w ∧
      w = { vo with ring := (brrNibbles hdr d1 d2 vo).ring, wpos := (vo.wpos + 4) % 12 } := by
  refine ⟨_, rfl, ?_⟩
  rw [← brrData_addr, ← brrData_addr]
  exact brrDecode_eq _ _ _ h.wpos

/-- Settles O54: a nibble by its sample, a block-step by its four nibbles and the ends of a block. -/
theorem blockStepRule : Obligations.BlockStep := by
  refine ⟨fun hdr nibble vo hn hw => ?_, fun s v hdr vo hok => ?_⟩
  · have hsample := brrSample_eq hdr hn vo
    refine ⟨?_, ?_, rfl, fun i h1 h2 => ?_⟩
    · rw [brrNibble_slot hdr nibble hw, if_pos (.inl rfl), hsample]
    · rw [brrNibble_slot hdr nibble hw, if_pos (.inr rfl), hsample]
    · rw [brrNibble_slot hdr nibble hw, if_neg (by simp [h1, h2])]
  · obtain ⟨w, hstep, hdecoded⟩ := blockStep_eq s v hdr hok
    dsimp only
    generalize s.peek (vo.brrAddr + BitVec.ofNat 16 (vo.brrOff + 1)) = d1 at hdecoded ⊢
    generalize s.peek (vo.brrAddr + BitVec.ofNat 16 (vo.brrOff + 2)) = d2 at hdecoded ⊢
    have hw : vo.wpos + 3 < 12 := by have := hok.wpos; omega
    have hwoff : w.brrOff = vo.brrOff := by rw [hdecoded]
    obtain ⟨hring, hwpos, hdelay, hinterp⟩ := brrAdvance_keeps s v hdr w
    have hslot (i : Nat) : (brrAdvance s v hdr w).slot i = (brrNibbles hdr d1 d2 vo).slot i := by
      rw [Voice.slot, hring, hdecoded, Voice.slot]
    rw [hstep]
    refine ⟨by rw [hwpos, hdecoded], by rw [hdelay, hdecoded], by rw [hinterp, hdecoded], fun k hk hout => ?_,
      fun hhdr => ?_, fun hoff => ?_, fun hoff => ?_⟩
    · rw [hslot, brrNibbles_slot_outside hdr _ _ hw hk hout]
    · rw [hslot, hslot, hslot, hslot]
      exact brrNibbles_slot_raw hhdr _ _ hw
    · rw [brrAdvance_within (by omega), hdecoded]
      exact ⟨rfl, rfl, rfl, rfl, rfl⟩
    · cases he : hdr.getLsbD 0 with
      | false =>
        rw [brrAdvance_next (hwoff.trans hoff) he, hdecoded]
        simp
      | true =>
        cases hl : hdr.getLsbD 1 with
        | false => simp [brrAdvance_end (hwoff.trans hoff) he hl]
        | true =>
          rw [brrAdvance_loop (hwoff.trans hoff) he hl, hdecoded]
          simp

end Sys2Proof.Machine
end

section
/-! PROOFS. A sample without a fault (R700, R742, R770, R775, R776): each voice step in full, and the master mix of the eight. -/

namespace Sys2Proof.Machine

/-! ### The voice step -/

/-- R664: the pitch as a number. -/
theorem State.voicePitch_eq (s : State) (v : Fin 8) :
    s.voicePitch v = ((s.voiceReg v 3).toNat * 256 + (s.voiceReg v 2).toNat) % 0x4000 := by
  rw [State.voicePitch, BitVec.toNat_and, Word.toNat_mk]
  exact Nat.and_two_pow_sub_one_eq_mod _ 14

/-- R701. -/
theorem voiceFetch_eq (s : State) (v : Fin 8) :
    voiceFetch s v =
      { vo := s.voices[v], hdr := s.peek s.voices[v].brrAddr
        pitch := ((s.voiceReg v 3).toNat * 256 + (s.voiceReg v 2).toNat) % 0x4000 } := by
  rw [voiceFetch, State.voicePitch_eq]

/-! ### The sample -/

/-- R776: a channel of the mix is 16 bits signed after the clamp. -/
theorem masterMix_toInt (sum : Int) (volume : Byte) :
    (masterMix sum volume).toInt = max (-32768) (min 32767 (sum * volume.toInt / 2 ^ 14)) := by
  have hclamp := BitVec.toInt_ofInt_eq_self (w := 16) (n := clamp16 (sar (sum * volume.toInt) 14)) (by decide)
    (by unfold clamp16; omega) (by unfold clamp16; omega)
  exact hclamp

theorem State.setVoice_getElem (s : State) (v : Fin 8) (vo : Voice) (w : Fin 8) :
    (s.setVoice v vo).voices[w] = if v = w then vo else s.voices[w] := by
  simp only [State.setVoice_voices, Fin.getElem_fin, Vector.getElem_set, Fin.val_inj]

/-- R775: the voices of a list are stepped from the state `u` at the start of the sample, of which only the voices already
stepped are changed. -/
theorem runVoices_done {u : State} {vos : Fin 8 → Voice} {l r : Fin 8 → Int}
    (hdone : ∀ v, voiceStep u v = .done (vos v) (l v) (r v)) (vs : List (Fin 8)) (hnodup : vs.Nodup) (lsum rsum : Int)
    (s : State) (hs : s = { u with voices := s.voices }) (hv : ∀ v ∈ vs, s.voices[v] = u.voices[v]) :
    ∃ ws : Vector Voice 8, (∀ v, ws[v] = if v ∈ vs then vos v else s.voices[v]) ∧
      runVoices vs lsum rsum s =
        .next (finishSample (lsum + (vs.map l).sum) (rsum + (vs.map r).sum) { u with voices := ws }) := by
  induction vs generalizing lsum rsum s with
  | nil => exact ⟨s.voices, by simp, by simp [runVoices, ← hs]⟩
  | cons v vs ih =>
    obtain ⟨hnot, hnodup⟩ := List.nodup_cons.mp hnodup
    have hstep : voiceStep s v = .done (vos v) (l v) (r v) := by
      rw [← hdone v, hs]
      exact voiceStep_congr v (hv v List.mem_cons_self) rfl rfl rfl rfl rfl rfl rfl
    have hrest (w : Fin 8) (hw : w ∈ vs) : (s.setVoice v (vos v)).voices[w] = u.voices[w] := by
      have hne : v ≠ w := fun h => hnot (h ▸ hw)
      rw [State.setVoice_getElem, if_neg hne, hv w (List.mem_cons_of_mem v hw)]
    obtain ⟨ws, hws, hrun⟩ := ih hnodup (lsum + l v) (rsum + r v) (s.setVoice v (vos v)) (by rw [State.setVoice, hs]) hrest
    refine ⟨ws, fun w => ?_, ?_⟩
    · rw [hws, State.setVoice_getElem]
      by_cases hw : v = w
      · subst hw; simp [hnot]
      · simp [hw, Ne.symm hw]
    · rw [runVoices, hstep]
      simp only [List.map_cons, List.sum_cons, ← add_assoc]
      exact hrun

/-- R742: part 6, and part 7 where the accumulator had reached 0x4000. -/
theorem accumulate_eq (s : State) (v : Fin 8) (r : VoiceRun) :
    accumulate s v r =
      let moved : Voice := { r.vo with interp := min (r.vo.interp % 0x4000 + r.pitch) 0x7FFF }
      if 0x4000 ≤ r.vo.interp then blockStep s v r.hdr moved else moved := rfl

theorem voiceOrder_eq : voiceOrder = List.finRange 8 := by decide

/-- Settles O55: a voice step by its inversion, the sample by the eight voice steps in order. -/
theorem sampleMixes : Obligations.SampleMixes := by
  refine ⟨fun s v vo l r h => ?_, fun s vos l r hdone => ?_⟩
  · obtain ⟨hout, w, henv, hvo⟩ := voiceStep_done h
    rw [voiceFetch_eq] at hout henv hvo
    exact ⟨(voiceOutput_ok hout).2, w, henv, hvo.trans (accumulate_eq ..)⟩
  · obtain ⟨ws, hws, hrun⟩ :=
      runVoices_done hdone voiceOrder (by decide) 0 0 _ rfl fun _ _ => rfl
    rw [voiceOrder_eq, ← Fin.sum_univ_def, ← Fin.sum_univ_def, zero_add, zero_add] at hrun
    refine ⟨_, _, _, hrun, rfl, rfl, masterMix_toInt _ _, masterMix_toInt _ _, fun v => ?_, rfl⟩
    exact (hws v).trans (if_pos (by rw [voiceOrder_eq]; exact List.mem_finRange v))

end Sys2Proof.Machine
end

section
/-! PROOFS. Time and target (R170-R173, R410, R770, R781): how far a step takes them, and that a `produce_frame` call ends. -/

namespace Sys2Proof.Machine

/-! ### An instruction -/

/-- R410: only a branch can give cycles back, and each branch costs at least 4. No operation that the other bodies are built
from writes the time. -/
theorem exec_time_eq_or_four_le {i : Instr} {s t : State} (h : exec i s = .next t) :
    t.time = s.time ∨ 4 ≤ opCycles i.opcode := by
  cases i with
  | bpl | bra | bmi | bvc | bvs | bcc | bcs | bne | beq | cbneDp | cbneDpX | dbnzDp | dbnzY
  | bbsBit0 | bbcBit0 | bbsBit1 | bbcBit1 | bbsBit2 | bbcBit2 | bbsBit3 | bbcBit3 | bbsBit4 | bbcBit4 | bbsBit5
  | bbcBit5 | bbsBit6 | bbcBit6 | bbsBit7 | bbcBit7 => exact .inr (Nat.le_of_ble_eq_true rfl)
  | div =>
    obtain ⟨u, hu, hk⟩ := execDiv_keeps s
    cases hu.symm.trans h
    exact .inl hk.time
  | nop | movSpX | jmpAbs | sleep | stop => cases h; exact .inl rfl
  | _ =>
    cases h
    left
    simp [load, store, moveTo, aluA, aluMem, cmpReg, cmpMem, rmwMem, rmwReg, modifyAt, testAndModify, modifyWordDp,
      carryFromBit, tableCall, enterBreak, returnFromBreak]

theorem build_opcode (op b1 b2 : Byte) : ((opInfo op).layout.build b1 b2).opcode = op := by
  obtain ⟨-, he⟩ := opInfo_encodedBy op b1 b2
  rw [Instr.opcode, he, List.headD_cons]

/-- R170: of the cost of an instruction at least 2 cycles remain after its body. -/
theorem exec_build_time {op b1 b2 : Byte} {s t : State} (h : exec ((opInfo op).layout.build b1 b2) s = .next t) :
    s.time + 2 ≤ t.time + opCycles op := by
  have hcost := opCycles_bounds op
  obtain ⟨n, hn, hk⟩ := exec_keeps h
  have hback := hk.time
  have hbranch := exec_time_eq_or_four_le h
  rw [build_opcode] at hbranch
  omega

/-- R173-R177. -/
theorem runInstr_next {op : Byte} {a : Word} {s t : State} (h : runInstr op a s = .next t) :
    SameMachine s t ∧ s.time + 2 ≤ t.time := by
  have hf := fetchOperands_keeps op (commitCost op s)
  unfold runInstr at h
  dsimp only at h
  split at h
  · obtain ⟨n, -, hk⟩ := exec_keeps h
    have hm := hf.machine.trans hk.machine
    have hcommit : (fetchOperands op (commitCost op s)).2.2.time = s.time + opCycles op := hf.time
    have htime := exec_build_time h
    rw [hcommit] at htime
    exact ⟨{ hm with }, by omega⟩
  · cases h

/-! ### A round of the loop -/

/-- The two ends of a round that leads on. -/
inductive RoundCase (s t : State) : Prop where
  /-- R170, R172, R181: `run` returns. -/
  | ended (phase : t.phase = .dsp) (params : t.params = s.params) (target : t.target = s.target) (time : s.time ≤ t.time)
  /-- R173-R177: an instruction has run, before the target. -/
  | ran (before : s.time < s.target) (machine : SameMachine s t) (time : s.time + 2 ≤ t.time)

theorem cpuStep_next {s t : State} (hle : s.time ≤ s.target) (h : cpuStep s = .next t) : RoundCase s t := by
  cases hh : s.halted with
  | true =>
    rw [cpuStep_of_halted hh] at h; cases h
    exact .ended rfl rfl rfl hle
  | false =>
    rcases Nat.lt_or_ge s.time s.target with ht | ht
    · by_cases hfit : Fits (fetch s.pc s).1 s
      · rw [cpuStep_eq_runInstr hh ht hfit] at h
        obtain ⟨hm, htime⟩ := runInstr_next h
        rw [fetch_time] at htime
        exact .ran ht ((fetch_keeps s.pc s).machine.trans hm) htime
      · rw [cpuStep_of_not_fits hh ht hfit] at h; cases h
        exact .ended rfl (fetch_params ..) (fetch_target ..) (Nat.le_of_eq (fetch_time ..).symm)
    · rw [cpuStep_of_target hh ht] at h; cases h
      exact .ended rfl rfl rfl (Nat.le_refl _)

/-! ### A sample -/

/-- R775: with the sample the call ends, and the CPU's time, the target and the parameters are untouched. -/
theorem runVoices_frame {vs : List (Fin 8)} {lsum rsum : Int} {s t : State} (h : runVoices vs lsum rsum s = .next t) :
    t.frame ≠ none ∧ t.phase = .idle ∧ t.params = s.params ∧ t.time = s.time ∧ t.target = s.target := by
  induction vs generalizing lsum rsum s with
  | nil => cases h; exact ⟨nofun, rfl, rfl, rfl, rfl⟩
  | cons v vs ih =>
    unfold runVoices at h
    split at h
    · exact ih (s := s.setVoice v _) h
    · cases h

theorem dspSample_next {s t : State} (h : dspSample s = .next t) :
    t.frame ≠ none ∧ t.phase = .idle ∧ t.params = s.params ∧ t.time = s.time ∧ t.target = s.target := by
  have hbegin : (latchKeys s).params = s.params ∧ (latchKeys s).time = s.time ∧ (latchKeys s).target = s.target := by
    unfold latchKeys
    split <;> exact ⟨rfl, rfl, rfl⟩
  obtain ⟨hframe, hphase, hparams, htime, htarget⟩ := runVoices_frame h
  obtain ⟨bparams, btime, btarget⟩ := hbegin
  exact ⟨hframe, hphase, hparams.trans bparams, htime.trans btime, htarget.trans btarget⟩

/-! ### A step -/

/-- R170, R770: the machine a step of a call works on. -/
theorem inCall_of_idle {s : State} (h : s.phase = .idle) : inCall s = openCall s := by
  unfold inCall
  rw [h]
  rfl

theorem inCall_of_cpu {s : State} (h : s.phase = .cpu) : inCall s = s := by
  unfold inCall
  rw [h]

theorem inCall_inv {s : State} (h : s.Inv) : (inCall s).Inv := by
  cases hp : s.phase with
  | idle => exact inCall_of_idle hp ▸ openCall_inv h hp
  | cpu => exact (inCall_of_cpu hp).symm ▸ h
  | dsp => unfold inCall; rw [hp]; exact h

theorem inCall_target (s : State) : (inCall s).target = if s.phase = .idle then s.target + 32 else s.target := by
  unfold inCall
  cases s.phase <;> rfl

/-- R604: only a machine without a fault has a next state. -/
theorem step_next_fault {s t : State} (h : step s = .next t) : s.fault = none ∧ t.fault = none := by
  obtain ⟨u, hu, hf⟩ | ⟨r, z, hraise⟩ := step_cases s
  · cases hu.symm.trans h
    exact hf
  · rw [hraise] at h
    cases r <;> cases h

/-- Settles O58: a round of the loop by its two ends, a sample by what it leaves alone. -/
theorem timeNeverRegresses : Obligations.TimeNeverRegresses := by
  intro s t h hs
  obtain ⟨hf, -⟩ := step_next_fault hs
  by_cases hp : s.phase = .dsp
  · rw [step_dsp s hf hp] at hs
    obtain ⟨-, -, hparams, htime, htarget⟩ := dspSample_next hs
    exact ⟨hparams, Nat.le_of_eq htime.symm, by rw [htarget, hp]; rfl⟩
  · rw [step_cpu s hf hp] at hs
    rw [← inCall_target, ← inCall_time s, ← inCall_params s]
    cases cpuStep_next (inCall_inv h).time.1 hs with
    | ended _ hparams htarget htime => exact ⟨hparams, htime, htarget⟩
    | ran _ hm htime => exact ⟨hm.params, by omega, hm.target⟩

/-! ### A call -/

/-- R770: how a call ends whose target is `target`: in a frame, or in a raised fault. -/
inductive CallEnded (target : Nat) : Result → Prop where
  | frame {t : State} (hphase : t.phase = .idle) (hframe : t.frame ≠ none) (htarget : t.target = target) (hinv : t.Inv) :
    CallEnded target (.next t)
  | raised (r : FaultRecord) (z : State) : CallEnded target (r.raise z)

/-- A call goes on from its next step, where that raises no fault. -/
theorem stepsToIdle_succ {target k : Nat} {s : State}
    (h : ∀ t, step s = .next t →
      CallEnded target (if t.phase = .idle then .next t else stepsToIdle k t)) :
    CallEnded target (stepsToIdle (k + 1) s) := by
  unfold stepsToIdle
  obtain ⟨t, hs, -⟩ | ⟨r, z, hraise⟩ := step_cases s
  · rw [hs]
    exact h t hs
  · rw [hraise]
    cases r with
    | unknownOpcode | unsupportedFeature => exact .raised _ z

/-- R770: parts 2-5 take one step. -/
theorem stepsToIdle_of_dsp {s : State} (h : s.Inv) (hp : s.phase = .dsp) (k : Nat) :
    CallEnded s.target (stepsToIdle (k + 1) s) := by
  refine stepsToIdle_succ fun t hs => ?_
  have hi := stepKeepsInvariant s t h hs
  rw [step_dsp s (step_next_fault hs).1 hp] at hs
  obtain ⟨hframe, hphase, -, -, htarget⟩ := dspSample_next hs
  rw [if_pos hphase]
  exact .frame hphase hframe htarget hi

/-- R170: inside a run every instruction takes the time at least 2 cycles on, so half the time to the target bounds the
instructions of the call. -/
theorem stepsToIdle_of_cpu (k : Nat) {s : State} (h : s.Inv) (hp : s.phase = .cpu) (hfar : s.target ≤ s.time + 2 * k) :
    CallEnded s.target (stepsToIdle (k + 2) s) := by
  induction k using Nat.strongRecOn generalizing s with
  | ind k ih =>
    refine stepsToIdle_succ fun t hs => ?_
    have hi := stepKeepsInvariant s t h hs
    rw [step_cpu s (step_next_fault hs).1 (by simp [hp]), inCall_of_cpu hp] at hs
    cases cpuStep_next h.time.1 hs with
    | ended hphase _ htarget _ =>
      rw [if_neg (by simp [hphase]), ← htarget]
      exact stepsToIdle_of_dsp hi hphase _
    | ran hbefore hm htime =>
      have hphase : t.phase = .cpu := hm.phase.trans hp
      obtain ⟨j, rfl⟩ : ∃ j, k = j + 1 := ⟨k - 1, by omega⟩
      rw [if_neg (by simp [hphase]), ← hm.target]
      exact ih j (Nat.lt_succ_self j) hi hphase (by rw [hm.target]; omega)

/-- R770: the first step of a call does what it would do with the call open. -/
theorem stepsToIdle_of_idle (k : Nat) {s : State} (hp : s.phase = .idle) (hf : s.fault = none) :
    stepsToIdle (k + 1) s = stepsToIdle (k + 1) (openCall s) := by
  have hstep : step s = step (openCall s) := by
    rw [step_cpu s hf (by simp [hp]), inCall_of_idle hp, step_cpu (openCall s) hf nofun, inCall_of_cpu rfl]
  rw [stepsToIdle, stepsToIdle, hstep]

/-- Settles O60: the open call is at most 43 cycles from its target, so its 32 steps are enough. -/
theorem produceFrameEnds : Obligations.ProduceFrameEnds := by
  intro s h hp hf
  have hi := openCall_inv h hp
  have hended : CallEnded (openCall s).target (produceFrame s) := by
    rw [produceFrame, stepsToIdle_of_idle 31 hp hf]
    exact stepsToIdle_of_cpu 30 hi rfl (hi.time.2.trans (Nat.add_le_add_left (by simp) _))
  generalize produceFrame s = o at hended ⊢
  cases hended with
  | frame hphase hframe htarget hinv =>
    obtain ⟨hle, hlag⟩ := hinv.time
    rw [hphase] at hlag
    exact ⟨hphase, hframe, htarget, hle, hlag⟩
  | raised r z =>
    cases r with
    | unknownOpcode | unsupportedFeature => exact Option.some_ne_none _

end Sys2Proof.Machine
end

section
/-! PROOFS. The start of a session (R56, R800-R809): the state after reset and the machine a snapshot builds. -/

namespace Sys2Proof.Machine

/-! ### The invariant at the start -/

/-- R808: a voice after load is in its ranges. -/
theorem Voice.reset_ok : Voice.reset.Ok := by
  have hslot (i : Nat) : Voice.reset.slot i = 0 := by
    rw [Voice.slot, Voice.reset, Vector.getElem?_replicate]
    split <;> rfl
  exact {
    konDelay := Nat.zero_le _
    wpos := .inl rfl
    brrOff := .inl rfl
    env := Nat.zero_le _
    pend := Nat.zero_le _
    interp := Nat.zero_le _
    mirror := fun i _ => by rw [hslot, hslot]
    range := fun i => by rw [hslot]; decide }

/-- R808, R809: with the voices and the bookkeeping at their start values the CPU's part of the invariant is all of it. -/
theorem State.Inv.of_start {s : State} (hcpu : s.CpuOk) (hvoices : s.voices = Vector.replicate 8 Voice.reset)
    (hrate : s.rateCounter = 0) (htime : s.time = 0) (htarget : s.target = 0) : s.Inv where
  ram := hcpu.ram
  flags := hcpu.flags
  counters := hcpu.counters
  rateCounter := by rw [hrate]; exact Nat.zero_le _
  voices v := by
    rw [hvoices, Fin.getElem_fin, Vector.getElem_replicate]
    exact Voice.reset_ok
  time := by
    rw [State.timeOk, htime, htarget]
    exact ⟨Nat.le_refl _, Nat.zero_le _⟩

/-- Cleared flags are legal. -/
theorem State.flagsOk_of_reset {s : State} (h : s.flags = State.reset.flags) : s.flagsOk := by
  rw [State.flagsOk, h]
  exact ⟨nofun, fun _ => ⟨rfl, rfl, rfl⟩⟩

/-- Settles O57: RAM lists nothing, the flags are cleared and the timers are at 0. -/
theorem resetMeetsInvariant : Obligations.ResetMeetsInvariant := by
  refine .of_start ⟨Memory.wf_nil, State.flagsOk_of_reset rfl, fun i => ?_⟩ rfl rfl rfl rfl
  rw [State.reset, Fin.getElem_fin, Vector.getElem_replicate]
  exact Nat.zero_le _

/-! ### The bytes of a snapshot -/

theorem Memory.read_of_forall_ne {m : List Host.Cell} {k : Nat} (h : ∀ c ∈ m, c.1 ≠ k) :
    Memory.read m k = Memory.unlisted := by
  induction m with
  | nil => rfl
  | cons c m ih =>
    rw [Memory.read, if_neg (h c List.mem_cons_self), ih fun d hd => h d (List.mem_cons_of_mem c hd)]

/-- R805: RAM built from bytes reads as those bytes. -/
theorem Memory.read_ofBytes (k : Nat) (bs : List Byte) (j : Nat) :
    Memory.read (Memory.ofBytes k bs) (k + j) = bs.getD j 0 := by
  induction bs generalizing k j with
  | nil => rfl
  | cons b bs ih =>
    have hbelow : Memory.read (Memory.ofBytes (k + 1) bs) k = Memory.unlisted :=
      Memory.read_of_forall_ne fun c hc => by
        have := (Memory.mem_ofBytes (k + 1) bs c hc).2.1
        omega
    cases j with
    | zero =>
      change Memory.read (Memory.ofBytes k (b :: bs)) k = b
      rw [Memory.ofBytes]
      split
      · rename_i hb
        rw [hbelow, hb]
      · rw [Memory.read, if_pos rfl]
    | succ j =>
      have hrest : Memory.read (Memory.ofBytes (k + 1) bs) (k + (j + 1)) = bs.getD j 0 := by
        rw [← ih (k + 1) j, Nat.add_right_comm, Nat.add_assoc]
      rw [Memory.ofBytes, List.getD_cons_succ, ← hrest]
      split
      · rfl
      · rw [Memory.read, if_neg (by simp)]

/-- R802: the first 37 bytes are the signature when each of them is. -/
theorem take_eq_signature {snap : List Byte} (h : snapshotLength ≤ snap.length) (signature : Vector Byte 37) :
    snap.take 37 = signature.toList ↔ ∀ i : Fin 37, snap.getD i 0 = signature[i] := by
  have h37 : 37 ≤ snap.length := Nat.le_trans (by decide) h
  have hbyte (i : Fin 37) : snap.getD i 0 = snap[i.val]'(by omega) := by
    rw [List.getD_eq_getElem?_getD, List.getElem?_eq_getElem, Option.getD_some]
  refine ⟨fun heq i => ?_, fun hall => List.ext_getElem ?_ fun i h1 h2 => ?_⟩
  · have hi := List.getElem_of_eq heq (i := i.val) (by rw [List.length_take]; omega)
    rw [List.getElem_take] at hi
    exact (hbyte i).trans hi
  · rw [List.length_take, Vector.length_toList]
    omega
  · rw [Vector.length_toList] at h2
    have hi := hall ⟨i, h2⟩
    rw [hbyte] at hi
    rw [List.getElem_take]
    exact hi

/-! ### The machine it builds -/

theorem State.ofSnapshot_inv (p : Params) (snap : List Byte) : (State.ofSnapshot p snap).Inv := by
  refine .of_start ((unpackPsw_keeps _ _).cpu ⟨?_, State.flagsOk_of_reset rfl, fun i => ?_⟩) rfl rfl rfl rfl
  · exact Memory.wf_ofBytes 0 _ (by simp)
  · rw [Fin.getElem_fin, Vector.getElem_ofFn]
    exact Nat.le_of_lt_succ (Nat.mod_lt _ (by decide))

/-- R805: no byte but those of the RAM image decides what an address holds. -/
theorem State.ofSnapshot_peek (p : Params) (snap : List Byte) (a : Word) :
    (State.ofSnapshot p snap).peek a = snap.getD (0x100 + a.toNat) 0 := by
  have hread := Memory.read_ofBytes 0 ((snap.drop 0x100).take 0x10000) a.toNat
  rw [Nat.zero_add] at hread
  refine hread.trans ?_
  rw [List.getD_eq_getElem?_getD, List.getElem?_take_of_lt a.isLt, List.getElem?_drop, List.getD_eq_getElem?_getD]

/-- R807: the timers are those the window of the RAM image gives. -/
theorem State.ofSnapshot_timers (p : Params) (snap : List Byte) (i : Fin 3) :
    let t := State.ofSnapshot p snap
    t.timers[i] =
      { enabled := (t.peek 0x00F1).getLsbD i, divisor := t.peek (0x00FA + BitVec.ofNat 16 i)
        counter := (t.peek (0x00FD + BitVec.ofNat 16 i)).toNat % 16, last := 0 } := by
  have htimer : (State.ofSnapshot p snap).timers[i] = Timer.ofRam (State.ofSnapshot p snap).ram i :=
    Vector.getElem_ofFn i.isLt
  have hdivisor : (0x00FA + BitVec.ofNat 16 i : Word).toNat = 0x00FA + i := by fin_cases i <;> rfl
  have hcounter : (0x00FD + BitVec.ofNat 16 i : Word).toNat = 0x00FD + i := by fin_cases i <;> rfl
  dsimp only
  rw [htimer, State.peek, State.peek, State.peek, hdivisor, hcounter]
  rfl

/-- Settles O59: the two rejections by the checks of R802, the machine field by field. -/
theorem loadBuildsState : Obligations.LoadBuildsState := by
  refine ⟨by decide +kernel, fun p snap => ⟨fun hshort => ?_, fun hlen ⟨i, hi⟩ => ?_, fun hlen hall => ?_⟩⟩
  · exact if_pos hshort
  · have hlong : ¬ snap.length < snapshotLength := Nat.not_lt.mpr hlen
    have hbad : snap.take 37 ≠ p.signature.toList := fun h => hi ((take_eq_signature hlen _).mp h i)
    rw [loadSnapshot, if_neg hlong, if_pos hbad]
  · have hlong : ¬ snap.length < snapshotLength := Nat.not_lt.mpr hlen
    have hgood : ¬ snap.take 37 ≠ p.signature.toList := not_not.mpr ((take_eq_signature hlen _).mpr hall)
    refine ⟨State.ofSnapshot p snap, ?_, State.ofSnapshot_inv p snap, rfl, rfl, rfl, rfl, rfl, rfl, rfl,
      State.ofSnapshot_peek p snap, fun k => Vector.getElem_ofFn k.isLt, State.ofSnapshot_timers p snap,
      fun v => Vector.getElem_replicate v.isLt, rfl, rfl, rfl, rfl, rfl, rfl, rfl, rfl⟩
    rw [loadSnapshot, if_neg hlong, if_neg hgood]

end Sys2Proof.Machine
end
